-- ==== Sys2Proof/Word.lean ====
section
/-! DEFINITION. The word types of the block (00_scope.md R6, R7): bytes, the nibbles of a host command, and the
16-bit accumulator pattern. -/

namespace Sys2Proof

/-- An unsigned 8-bit value: keycode, mask, scancode, host command, packet byte (R6, R7). -/
abbrev Byte := BitVec 8

/-- The 4-bit fields `hi` and `lo` of a host command byte (30_encoding.md R70). -/
abbrev Nibble := BitVec 4

/-- The 16-bit two's-complement pattern of an accumulator (R6, 10_state.md R26). -/
abbrev Word16 := BitVec 16

end Sys2Proof
end

