-- ==== Sys2Proof/Syntax.lean ====
section
/-! DEFINITION. The block's transactions as the environment delivers them (30_encoding.md R80), its instructions
(one constructor per mnemonic of spec/opcode_table.json), and the small types both are made of. -/

namespace Sys2Proof

/-- The event type of a key edge and of an emitted event: press or release (R9, R80). -/
inductive EventType where
  | press
  | release
deriving DecidableEq, Repr

/-- The button of a BUTTON transaction; a button the block has no state for is `other` (R80, R81). -/
inductive Button where
  | left
  | right
  | other
deriving DecidableEq, Repr

/-- The eight modifiers of the HID modifier bitmask (R76). -/
inductive Modifier where
  | lctrl
  | lshift
  | lalt
  | lgui
  | rctrl
  | rshift
  | ralt
  | rgui
deriving DecidableEq, Repr

/-- One emitted event: a scancode with its event type (R10, R100). -/
structure Event where
  scancode : Byte
  kind : EventType
deriving DecidableEq, Repr

/-- Which transaction an emitted event comes from: `Emit` is KEY's, `EmitMod` is MODS's (20_memory.md R55). -/
inductive Origin where
  | key
  | mod
deriving DecidableEq, Repr

/-- The two sources of input (10_state.md R32). -/
inductive Source where
  | usb
  | host
deriving DecidableEq, Repr

/-- The block's input interfaces (10_state.md R33). -/
inductive Port where
  | usbKbdIn
  | usbMouseIn
  | hostRx
deriving DecidableEq, Repr

/-- One input to the block, as a typed record: the record IS the encoding of a USB-side transaction and the byte
the encoding of a HOST one (R80, R85). -/
inductive Transaction where
  | key (k : Byte) (p : EventType)
  | mods (mask : Byte)
  | move (dx dy : Int)
  | button (which : Button) (down : Bool)
  | host (b : Byte)
deriving DecidableEq, Repr

/-- The instructions: one constructor per mnemonic of the opcode table. A HOST class of several bytes keeps what
tells its bytes apart, because every HOST transaction stores its own byte (43_host_commands.md R171). -/
inductive Instr where
  /-- `HOST 0x40` (R173). -/
  | hostMsctrlTrigger
  /-- `HOST 0x41` (R174). -/
  | hostTriggerArm
  /-- `HOST 0x42`..`0x47`, `0x4A`..`0x4F` (R175). -/
  | hostSpecialIgnored (lo : Nibble)
  /-- `HOST 0x48` (R176). -/
  | hostKbdDisable
  /-- `HOST 0x49` (R177). -/
  | hostKbdEnable
  /-- `HOST 0x50`..`0x5F` (R178). -/
  | hostReserved5x (lo : Nibble)
  /-- `HOST 0x60`..`0x6F` (R179). -/
  | hostRepeatDelay (lo : Nibble)
  /-- `HOST 0x70`..`0x7F` (R180). -/
  | hostRepeatInterval (lo : Nibble)
  /-- `HOST 0x80`..`0x8F` (R181). -/
  | hostLedStatus (lo : Nibble)
  /-- `HOST 0xF0`..`0xFC`, `0xFE` (R184). -/
  | hostOtherFxIgnored (lo : Nibble)
  /-- `HOST 0xFD` (R182). -/
  | hostHello
  /-- `HOST 0xFF` (R183). -/
  | hostGoodbye
  /-- `HOST 0x00`..`0x3F`, `0x90`..`0xEF` (R185). -/
  | hostUnrecognized (b : Byte)
  /-- `KEY k, p` (R100). -/
  | key (k : Byte) (p : EventType)
  /-- `MODS mask` (R130). -/
  | mods (mask : Byte)
  /-- `MOVE dx, dy` (R150). -/
  | move (dx dy : Int)
  /-- `BUTTON which, down` (R153). -/
  | button (which : Button) (down : Bool)
deriving DecidableEq, Repr

/-- The thirteen HOST mnemonics of the opcode table (R71). -/
inductive HostClass where
  | msctrlTrigger
  | triggerArm
  | specialIgnored
  | kbdDisable
  | kbdEnable
  | reserved5x
  | repeatDelay
  | repeatInterval
  | ledStatus
  | otherFxIgnored
  | hello
  | goodbye
  | unrecognized
deriving DecidableEq, Repr

/-- One HOST row of spec/opcode_table.json: a byte `b` belongs to it when `b & mask` is `pattern`. -/
structure HostRow where
  cls : HostClass
  pattern : Byte
  mask : Byte
deriving DecidableEq, Repr

/-- Why a sequence of bytes is no host command: "A host command is exactly one byte" (R70). -/
inductive DecodeReject where
  /-- No byte at all. -/
  | empty
  /-- More than one byte: "There are no multi-byte commands". -/
  | notOneByte (length : Nat)
deriving DecidableEq, Repr

/-- The pseudo-transactions of the script syntax (R86). -/
inductive Pseudo where
  | tap (k : Byte)
  | poll
  | kbdOff
  | kbdOn
  | clickLeft
deriving DecidableEq, Repr

/-- One line of a transaction script: a transaction or a pseudo-transaction (R85, R86). -/
inductive ScriptLine where
  | plain (t : Transaction)
  | pseudo (p : Pseudo)
deriving DecidableEq, Repr

end Sys2Proof
end

