-- ==== Sys2Proof/WellFormed.lean ====
section
/-! DEFINITION. Which terms of Instr are instructions: the low nibble or byte of a HOST class lies in the class
(30_encoding.md R71). The range of a MOVE depends on the configuration and is checked when it is performed (R203). -/

namespace Sys2Proof

/-- `0x42`..`0x47`, `0x4A`..`0x4F`: not the four bytes with a row of their own (R175). -/
def specialLow (lo : Nibble) : Bool :=
  lo != 0x0#4 && lo != 0x1#4 && lo != 0x8#4 && lo != 0x9#4

/-- `0xF0`..`0xFC`, `0xFE`: neither hello nor goodbye (R184). -/
def otherFxLow (lo : Nibble) : Bool :=
  lo != 0xD#4 && lo != 0xF#4

/-- `0x00`..`0x3F`, `0x90`..`0xEF` (R185). -/
def unrecognizedByte (b : Byte) : Bool :=
  b.toNat < 0x40 || (0x90 ≤ b.toNat && b.toNat < 0xF0)

/-- The instruction is one the opcode table lists. -/
def Instr.wellFormed : Instr → Bool
  | .hostMsctrlTrigger => true
  | .hostTriggerArm => true
  | .hostSpecialIgnored lo => specialLow lo
  | .hostKbdDisable => true
  | .hostKbdEnable => true
  | .hostReserved5x _ => true
  | .hostRepeatDelay _ => true
  | .hostRepeatInterval _ => true
  | .hostLedStatus _ => true
  | .hostOtherFxIgnored lo => otherFxLow lo
  | .hostHello => true
  | .hostGoodbye => true
  | .hostUnrecognized b => unrecognizedByte b
  | .key _ _ => true
  | .mods _ => true
  | .move _ _ => true
  | .button _ _ => true

end Sys2Proof
end

