-- ==== Sys2Proof/Decode.lean ====
section
/-! DEFINITION. Decoding and encoding (30_encoding.md R70 to R73, R80, R85). Every one of the 256 host bytes is an
instruction and every USB-side record is one, so decoding a transaction is total; what is rejected, by name, is a
sequence of bytes that is not exactly one. -/

namespace Sys2Proof

/-- `hi = b[7:4]` (R70). -/
def hiNibble (b : Byte) : Nibble := b.extractLsb' 4 4

/-- `lo = b[3:0]` (R70). -/
def loNibble (b : Byte) : Nibble := b.extractLsb' 0 4

/-- The byte with the fields `hi` and `lo` (R70). -/
def byteOf (hi lo : Nibble) : Byte := hi ++ lo

/-- The command map, in the order of the HOST pseudocode (R71, 43_host_commands.md R170). -/
def decodeHostByte (b : Byte) : Instr :=
  let hi := hiNibble b
  let lo := loNibble b
  if b = 0x40#8 then .hostMsctrlTrigger
  else if b = 0x41#8 then .hostTriggerArm
  else if b = 0x48#8 then .hostKbdDisable
  else if b = 0x49#8 then .hostKbdEnable
  else if hi = 0x4#4 then .hostSpecialIgnored lo
  else if hi = 0x5#4 then .hostReserved5x lo
  else if hi = 0x6#4 then .hostRepeatDelay lo
  else if hi = 0x7#4 then .hostRepeatInterval lo
  else if hi = 0x8#4 then .hostLedStatus lo
  else if b = 0xFD#8 then .hostHello
  else if b = 0xFF#8 then .hostGoodbye
  else if hi = 0xF#4 then .hostOtherFxIgnored lo
  else .hostUnrecognized b

/-- The instruction a delivered transaction stands for (R41, R80). -/
def decode : Transaction → Instr
  | .host b => decodeHostByte b
  | .key k p => .key k p
  | .mods mask => .mods mask
  | .move dx dy => .move dx dy
  | .button which down => .button which down

/-- The host command in a sequence of bytes: exactly one byte, else a rejection by name (R70). -/
def decodeCommand : List Byte → Except DecodeReject Instr
  | [] => .error .empty
  | [b] => .ok (decodeHostByte b)
  | bs => .error (.notOneByte bs.length)

/-- The transaction an instruction is delivered as: a HOST class's byte, a USB-side record (R71, R85). -/
def encode : Instr → Transaction
  | .hostMsctrlTrigger => .host 0x40#8
  | .hostTriggerArm => .host 0x41#8
  | .hostSpecialIgnored lo => .host (byteOf 0x4#4 lo)
  | .hostKbdDisable => .host 0x48#8
  | .hostKbdEnable => .host 0x49#8
  | .hostReserved5x lo => .host (byteOf 0x5#4 lo)
  | .hostRepeatDelay lo => .host (byteOf 0x6#4 lo)
  | .hostRepeatInterval lo => .host (byteOf 0x7#4 lo)
  | .hostLedStatus lo => .host (byteOf 0x8#4 lo)
  | .hostOtherFxIgnored lo => .host (byteOf 0xF#4 lo)
  | .hostHello => .host 0xFD#8
  | .hostGoodbye => .host 0xFF#8
  | .hostUnrecognized b => .host b
  | .key k p => .key k p
  | .mods mask => .mods mask
  | .move dx dy => .move dx dy
  | .button which down => .button which down

/-- The 23 HOST rows of spec/opcode_table.json, in its order. -/
def hostRows : List HostRow :=
  [⟨.msctrlTrigger, 0x40#8, 0xFF#8⟩, ⟨.triggerArm, 0x41#8, 0xFF#8⟩,
   ⟨.specialIgnored, 0x42#8, 0xFE#8⟩, ⟨.specialIgnored, 0x44#8, 0xFC#8⟩,
   ⟨.specialIgnored, 0x4A#8, 0xFE#8⟩, ⟨.specialIgnored, 0x4C#8, 0xFC#8⟩,
   ⟨.kbdDisable, 0x48#8, 0xFF#8⟩, ⟨.kbdEnable, 0x49#8, 0xFF#8⟩] ++
  [⟨.reserved5x, 0x50#8, 0xF0#8⟩, ⟨.repeatDelay, 0x60#8, 0xF0#8⟩,
   ⟨.repeatInterval, 0x70#8, 0xF0#8⟩, ⟨.ledStatus, 0x80#8, 0xF0#8⟩,
   ⟨.otherFxIgnored, 0xF0#8, 0xF8#8⟩, ⟨.otherFxIgnored, 0xF8#8, 0xFC#8⟩,
   ⟨.otherFxIgnored, 0xFC#8, 0xFF#8⟩, ⟨.otherFxIgnored, 0xFE#8, 0xFF#8⟩] ++
  [⟨.hello, 0xFD#8, 0xFF#8⟩, ⟨.goodbye, 0xFF#8, 0xFF#8⟩,
   ⟨.unrecognized, 0x00#8, 0xC0#8⟩, ⟨.unrecognized, 0x90#8, 0xF0#8⟩,
   ⟨.unrecognized, 0xA0#8, 0xE0#8⟩, ⟨.unrecognized, 0xC0#8, 0xE0#8⟩,
   ⟨.unrecognized, 0xE0#8, 0xF0#8⟩]

/-- The byte belongs to the row. -/
def HostRow.holds (r : HostRow) (b : Byte) : Bool := b &&& r.mask == r.pattern

/-- The HOST mnemonic of an instruction; none for the four USB-side ones. -/
def Instr.hostClass : Instr → Option HostClass
  | .hostMsctrlTrigger => some .msctrlTrigger
  | .hostTriggerArm => some .triggerArm
  | .hostSpecialIgnored _ => some .specialIgnored
  | .hostKbdDisable => some .kbdDisable
  | .hostKbdEnable => some .kbdEnable
  | .hostReserved5x _ => some .reserved5x
  | .hostRepeatDelay _ => some .repeatDelay
  | .hostRepeatInterval _ => some .repeatInterval
  | .hostLedStatus _ => some .ledStatus
  | .hostOtherFxIgnored _ => some .otherFxIgnored
  | .hostHello => some .hello
  | .hostGoodbye => some .goodbye
  | .hostUnrecognized _ => some .unrecognized
  | .key _ _ => none
  | .mods _ => none
  | .move _ _ => none
  | .button _ _ => none

/-- The interface a transaction arrives on (10_state.md R33). -/
def Transaction.port : Transaction → Port
  | .key _ _ => .usbKbdIn
  | .mods _ => .usbKbdIn
  | .move _ _ => .usbMouseIn
  | .button _ _ => .usbMouseIn
  | .host _ => .hostRx

/-- The source that delivers on an interface (10_state.md R32, R33). -/
def Port.source : Port → Source
  | .usbKbdIn => .usb
  | .usbMouseIn => .usb
  | .hostRx => .host

/-- The source of a transaction. -/
def Transaction.source (t : Transaction) : Source := t.port.source

/-- The bytes of an opcode-table word of `nbits` bits: bits 7..0 are the first byte, later bytes count on. -/
def bytesOfWord : Nat → Nat → List Byte
  | 0, _ => []
  | n + 1, w => BitVec.ofNat 8 w :: bytesOfWord n (w / 256)

/-- The number of whole bytes an opcode-table word of `nbits` bits has. -/
def byteCount (nbits : Nat) : Nat := (nbits + 7) / 8

/-- The instruction the decoder reads from an opcode-table word; none where it rejects (every HOST row has 8 bits;
the USB-side rows have no binary encoding, R80). -/
def decodeTableWord (nbits w : Nat) : Option Instr :=
  match decodeCommand (bytesOfWord (byteCount nbits) w) with
  | .ok i => some i
  | .error _ => none

end Sys2Proof
end

