-- ==== Sys2Proof/Config.lean ====
section
/-! DEFINITION. The configuration record `Cfg` (00_scope.md R5, 10_state.md R30) and the free values that stand for
the parameters to which the spec gives no value. -/

namespace Sys2Proof

/-- ACC16_MODE (R5, R8). -/
inductive AccMode where
  | wrap
  | saturate
deriving DecidableEq, Repr

/-- SHIFT_STATE_POLICY (R5, R130). -/
inductive ShiftStatePolicy where
  | orOfBits
  | lastEdge
deriving DecidableEq, Repr

/-- KBD_GATE_SCOPE (R5, R55). -/
inductive GateScope where
  | allKeyboardOutput
  | keyEventsOnly
deriving DecidableEq, Repr

/-- The check of 10_state.md R31 that a configuration fails. -/
inductive ConfigReason where
  /-- (a) `1 <= TABLE_LEN <= 256`. -/
  | tableLength
  /-- (b) both arrays have exactly TABLE_LEN entries. -/
  | arrayLength
  /-- (c) `SCANCODE_TABLE[0] = 0x00`. -/
  | indexZero
  /-- (d) `MOUSE_DIVIDER >= 1`. -/
  | divider
  /-- (e) `AUTO_REPEAT = false`. -/
  | autoRepeat
  /-- (f) `MOUSE_DELTA_MIN <= 0 <= MOUSE_DELTA_MAX`, both 16-bit. -/
  | deltaRange
  /-- (g) duplicate keys while REJECT_DUPLICATE_KEYS. -/
  | duplicateKeys
deriving DecidableEq, Repr

/-- The configuration record of R5. It is plain data and no transaction writes it (R30). -/
structure Cfg where
  tableLen : Nat
  scancodeTable : List Byte
  shiftOverrideTable : List Byte
  forceShiftList : List (Byte × Byte)
  forceUnshiftList : List (Byte × Byte)
  altKeyTable : List (Byte × Byte)
  shiftSc : Byte
  lctrlSc : Byte
  rctrlSc : Byte
  laltSc : Byte
  raltSc : Byte
  mouseDivider : Nat
  mouseDeltaMin : Int
  mouseDeltaMax : Int
  acc16Mode : AccMode
  shiftStatePolicy : ShiftStatePolicy
  zeroScancodeEmits : Bool
  kbdGateScope : GateScope
  kbdEnabledAtReset : Bool
  autoRepeat : Bool
  rejectDuplicateKeys : Bool
deriving DecidableEq, Repr

/-- DESIGN CHOICE (log 2), safe: the entry of SCANCODE_TABLE at an index from 1 on; the spec gives no contents (N1). -/
opaque Config.scancodeEntry : Nat → Byte
/-- DESIGN CHOICE (log 2), safe: the entry of SHIFT_OVERRIDE_TABLE at an index (N1). -/
opaque Config.shiftOverrideEntry : Nat → Byte
/-- DESIGN CHOICE (log 2), safe: FORCE_SHIFT_LIST (N1). -/
opaque Config.forceShiftList : List (Byte × Byte)
/-- DESIGN CHOICE (log 2), safe: FORCE_UNSHIFT_LIST (N1). -/
opaque Config.forceUnshiftList : List (Byte × Byte)
/-- DESIGN CHOICE (log 2), safe: ALT_KEY_TABLE (N1). -/
opaque Config.altKeyTable : List (Byte × Byte)
/-- DESIGN CHOICE (log 2), safe: the legacy scancode of a modifier (N2). -/
opaque Config.modifierScancode : Modifier → Byte
/-- DESIGN CHOICE (log 2), safe: the legacy scancode of Shift (N2). -/
opaque Config.shiftScancode : Byte
/-- DESIGN CHOICE (log 2), safe: MOUSE_DIVIDER less one, so that the divider is at least 1 (N4, R31 (d)). -/
opaque Config.mouseDividerLessOne : Nat

end Sys2Proof
end

