-- ==== Sys2Proof/Machine/Configuration.lean ====
section
/-! DEFINITION. The well-formedness of a configuration (10_state.md R31) and the configuration of the reset state. -/

namespace Sys2Proof.Machine

/-- The keycodes of a pair list. -/
def pairKeys (l : List (Byte × Byte)) : List Byte := l.map Prod.fst

/-- Two pairs of the list have the same keycode (R31 (g)). -/
def hasDuplicateKey : List Byte → Bool
  | [] => false
  | k :: ks => ks.contains k || hasDuplicateKey ks

/-- R31 (a). -/
def tableLengthOk (c : Cfg) : Bool := 1 ≤ c.tableLen && c.tableLen ≤ 256

/-- R31 (b). -/
def arrayLengthOk (c : Cfg) : Bool :=
  c.scancodeTable.length == c.tableLen && c.shiftOverrideTable.length == c.tableLen

/-- R31 (c). -/
def indexZeroOk (c : Cfg) : Bool := c.scancodeTable.head? == some 0x00#8

/-- R31 (d). -/
def dividerOk (c : Cfg) : Bool := Nat.ble 1 c.mouseDivider

/-- R31 (e). -/
def autoRepeatOk (c : Cfg) : Bool := !c.autoRepeat

/-- R31 (f). -/
def deltaRangeOk (c : Cfg) : Bool :=
  decide (-32768 ≤ c.mouseDeltaMin) && decide (c.mouseDeltaMin ≤ 0) &&
    decide (0 ≤ c.mouseDeltaMax) && decide (c.mouseDeltaMax ≤ 32767)

/-- R31 (g). -/
def duplicateKeysOk (c : Cfg) : Bool :=
  !(c.rejectDuplicateKeys &&
    (hasDuplicateKey (pairKeys c.forceShiftList) || hasDuplicateKey (pairKeys c.forceUnshiftList) ||
      hasDuplicateKey (pairKeys c.altKeyTable)))

/-- The first check of R31, in its order (a) to (g), that the configuration fails; none if it is well-formed. -/
def configCheck (c : Cfg) : Option ConfigReason :=
  if !tableLengthOk c then some .tableLength
  else if !arrayLengthOk c then some .arrayLength
  else if !indexZeroOk c then some .indexZero
  else if !dividerOk c then some .divider
  else if !autoRepeatOk c then some .autoRepeat
  else if !deltaRangeOk c then some .deltaRange
  else if !duplicateKeysOk c then some .duplicateKeys
  else none

/-- The configuration is well-formed (R31). -/
abbrev CfgWellFormed (c : Cfg) : Prop := configCheck c = none

/-- The entries of SCANCODE_TABLE in the reset configuration: index 0 is a no-op (R30), the others are free (log 2). -/
def referenceScancode (k : Nat) : Byte := if k = 0 then 0x00#8 else Config.scancodeEntry k

/-- The configuration of `State.reset`: R5's value where the spec gives or decides one, a free value where it gives
none (log 2), and the length 0x69 for the source's "N≈0x68" (log 3, DESIGN CHOICE, unsafe). -/
def referenceCfg : Cfg where
  tableLen := 0x69
  scancodeTable := (List.range 0x69).map referenceScancode
  shiftOverrideTable := (List.range 0x69).map Config.shiftOverrideEntry
  forceShiftList := Config.forceShiftList
  forceUnshiftList := Config.forceUnshiftList
  altKeyTable := Config.altKeyTable
  shiftSc := Config.shiftScancode
  lctrlSc := Config.modifierScancode .lctrl
  rctrlSc := Config.modifierScancode .rctrl
  laltSc := Config.modifierScancode .lalt
  raltSc := Config.modifierScancode .ralt
  mouseDivider := Config.mouseDividerLessOne + 1
  mouseDeltaMin := -128
  mouseDeltaMax := 127
  acc16Mode := .wrap
  shiftStatePolicy := .orOfBits
  zeroScancodeEmits := false
  kbdGateScope := .allKeyboardOutput
  kbdEnabledAtReset := true
  autoRepeat := false
  rejectDuplicateKeys := false

end Sys2Proof.Machine
end

