-- ==== Sys2Proof/Machine/State.lean ====
section
/-! DEFINITION. The state of the block (10_state.md R20 to R30) with its output streams and delivered inputs, the
reasons a step can stop, and the state after reset (70_reset_and_hazards.md R230). -/

namespace Sys2Proof.Machine

/-- The faults of the block: none. "No transaction raises an exception" (60_exceptions.md R200), so the type has no
constructor, and no step can fault (log 9, safe). -/
inductive Fault where
deriving DecidableEq, Repr

/-- The refusals of the model. -/
inductive Refusal where
  /-- Raised by an arm of `exec` whose instruction has no meaning yet; no arm does. Safe. -/
  | notModelled (mnemonic : String)
  /-- ConfigFault: raised by `step` and `boot` on a configuration that fails a check of R31, before any transaction
  (R202), and by KEY and MOVE where such a configuration leaves a table read or the division undefined. Safe. -/
  | configFault (reason : ConfigReason)
  /-- Raised by MOVE when dx or dy lies outside `[MOUSE_DELTA_MIN, MOUSE_DELTA_MAX]` (R203). Safe. -/
  | moveOutsideRange
deriving DecidableEq, Repr

/-- The state: the read-only configuration (R30), the nine registers (R20), the two output streams (R53, R54), and the
transactions delivered and not yet performed, oldest first (R80, R205; the model's own field, log 4). -/
structure State where
  cfg : Cfg
  shiftState : Bool
  altLayerState : Bool
  prevMods : Byte
  keyboardEnabled : Bool
  lastByte : Byte
  accDX : Word16
  accDY : Word16
  btnL : Bool
  btnR : Bool
  kbdOut : List Byte
  mouseOut : List Byte
  pending : List Transaction
deriving DecidableEq, Repr

/-- The state after reset under a configuration (R230). -/
def State.resetWith (c : Cfg) : State where
  cfg := c
  shiftState := false
  altLayerState := false
  prevMods := 0x00#8
  keyboardEnabled := c.kbdEnabledAtReset
  lastByte := 0x00#8
  accDX := 0
  accDY := 0
  btnL := false
  btnR := false
  kbdOut := []
  mouseOut := []
  pending := []

/-- The state after reset (R230), under the reference configuration (logs 2 and 3). -/
def State.reset : State := State.resetWith referenceCfg

end Sys2Proof.Machine
end

