-- ==== Sys2Proof/Machine/Operands.lean ====
section
/-! DEFINITION. The integer primitives (00_scope.md R8), the fields of the modifier bitmask (30_encoding.md R76) and
the range of a MOVE operand (R81). -/

namespace Sys2Proof.Machine

/-- `sext_16`: the pattern read as a two's-complement integer (R8). -/
def sext16 (v : Word16) : Int := v.toInt

/-- `trunc_8`: the low 8 bits of an integer (R8). -/
def trunc8 (v : Int) : Byte := BitVec.ofInt 8 v

/-- `tdiv`: division rounded toward zero, `sign(a) * (abs(a) div abs(d))` (R8). -/
def tdiv (a : Int) (d : Nat) : Int := a.sign * (a.natAbs / d : Nat)

/-- `wrap16`: the integer in -32768..32767 congruent to `v` modulo 65536 (R8). -/
def wrap16 (v : Int) : Int := (v + 32768) % 65536 - 32768

/-- `sat16`: the nearest integer in -32768..32767 (R8). -/
def sat16 (v : Int) : Int := min 32767 (max (-32768) v)

/-- `add16` (R8): the sum brought back into 16 bits as ACC16_MODE says. -/
def add16 (mode : AccMode) (a b : Int) : Int :=
  match mode with
  | .wrap => wrap16 (a + b)
  | .saturate => sat16 (a + b)

/-- An accumulator after `add16` of a quotient (42_mouse_accumulator.md R150). -/
def accumulate (mode : AccMode) (acc : Word16) (q : Int) : Word16 :=
  BitVec.ofInt 16 (add16 mode (sext16 acc) q)

/-- A MOVE operand inside the interface: `[MOUSE_DELTA_MIN, MOUSE_DELTA_MAX]` (R81). -/
def deltaInRange (c : Cfg) (d : Int) : Bool := decide (c.mouseDeltaMin ≤ d) && decide (d ≤ c.mouseDeltaMax)

/-- The fields of the transaction are valid (R81); only a MOVE's can fail to be. -/
def transactionValid (c : Cfg) : Transaction → Bool
  | .key _ _ => true
  | .mods _ => true
  | .move dx dy => deltaInRange c dx && deltaInRange c dy
  | .button _ _ => true
  | .host _ => true

/-- The bit of a modifier in the bitmask (R76). -/
def modifierBit : Modifier → Nat
  | .lctrl => 0
  | .lshift => 1
  | .lalt => 2
  | .lgui => 3
  | .rctrl => 4
  | .rshift => 5
  | .ralt => 6
  | .rgui => 7

/-- The evaluation order of the modifiers (41_modifiers.md R132). -/
def modifierOrder : List Modifier := [.lctrl, .lshift, .lalt, .lgui, .rctrl, .rshift, .ralt, .rgui]

/-- `m[i]` for the bit of a modifier. -/
def modifierHeld (m : Byte) (d : Modifier) : Bool := m.getLsbD (modifierBit d)

/-- `m[i] != q[i]` for the bit of a modifier (R131). -/
def modifierChanged (q m : Byte) (d : Modifier) : Bool := modifierHeld m d != modifierHeld q d

/-- `(m[i] == 1) ? press : release` (R130). -/
def edgeKind (held : Bool) : EventType := if held then .press else .release

end Sys2Proof.Machine
end

