-- ==== Sys2Proof/Machine/Flags.lean ====
section
/-! DEFINITION. The overflow flags of a mouse frame (43_host_commands.md R190) and the byte they go into (R191). They
are no state (10_state.md R28): every frame computes all four. -/

namespace Sys2Proof.Machine

/-- `x_ovn` or `y_ovn`: the accumulated value is below -128 (R190). -/
def overflowNegative (acc : Word16) : Bool := decide (sext16 acc < -128)

/-- `x_ovp` or `y_ovp`: the accumulated value is above 127 (R190). -/
def overflowPositive (acc : Word16) : Bool := decide (127 < sext16 acc)

/-- `bool(b) << n` at 8 bits (R7, R191). -/
def flagAt (b : Bool) (n : Nat) : Byte := (if b then 1#8 else 0#8) <<< n

/-- Packet byte 0 (R75, R191). -/
def packetByte0 (x y : Word16) (right left : Bool) : Byte :=
  flagAt (overflowNegative y) 7 ||| flagAt (overflowPositive y) 6 ||| flagAt (overflowNegative x) 5 |||
    flagAt (overflowPositive x) 4 ||| flagAt right 1 ||| flagAt left 0

end Sys2Proof.Machine
end

