-- ==== Sys2Proof/Machine/Ops.lean ====
section
/-! DEFINITION. The named operations over the registers, the tables and the streams: the writes of each register, the
table reads (20_memory.md R50, R51), the keyboard frame generator (R55), the mouse frame (43_host_commands.md R192),
the storing of the last host byte (R171), and the taking of the next delivered transaction. The block takes no
exception (60_exceptions.md R200, R207), so there is no exception entry and no return. -/

namespace Sys2Proof.Machine

/-! Register writes (R9). -/

def State.setShiftState (s : State) (v : Bool) : State := { s with shiftState := v }
def State.setAltLayerState (s : State) (v : Bool) : State := { s with altLayerState := v }
def State.setPrevMods (s : State) (v : Byte) : State := { s with prevMods := v }
def State.setKeyboardEnabled (s : State) (v : Bool) : State := { s with keyboardEnabled := v }
def State.setLastByte (s : State) (v : Byte) : State := { s with lastByte := v }
def State.setAccDX (s : State) (v : Word16) : State := { s with accDX := v }
def State.setAccDY (s : State) (v : Word16) : State := { s with accDY := v }
def State.setBtnL (s : State) (v : Bool) : State := { s with btnL := v }
def State.setBtnR (s : State) (v : Bool) : State := { s with btnR := v }
def State.setPending (s : State) (ts : List Transaction) : State := { s with pending := ts }

/-- `KbdOut.append(b)` (R53). -/
def State.appendKbd (s : State) (b : Byte) : State := { s with kbdOut := s.kbdOut ++ [b] }

/-- `MouseOut.append(b)` (R54). -/
def State.appendMouse (s : State) (b : Byte) : State := { s with mouseOut := s.mouseOut ++ [b] }

/-! Table reads. -/

/-- `Table(T, k)`: the indexed read, defined only inside the array (R50). -/
def tableRead (table : List Byte) (k : Byte) : Option Byte := table[k.toNat]?

/-- `Lookup(L, k)`: the value of the first pair with the key (R51). -/
def lookup : List (Byte × Byte) → Byte → Option Byte
  | [], _ => none
  | (key, value) :: rest, k => if key = k then some value else lookup rest k

/-! The keyboard channel. -/

/-- `(ev == press) ? (sc & 0x7F) : (sc | 0x80)` (R55, R74). -/
def frameByte (e : Event) : Byte :=
  match e.kind with
  | .press => e.scancode &&& 0x7F#8
  | .release => e.scancode ||| 0x80#8

/-- The gate of R55: open while KeyboardEnabled, and for MODS always under `key_events_only`. -/
def gateOpen (c : Cfg) (enabled : Bool) (origin : Origin) : Bool :=
  enabled || (origin == .mod && c.kbdGateScope == .keyEventsOnly)

/-- A scancode that emits nothing: 0x00 unless ZERO_SCANCODE_EMITS (R55, R110). -/
def silentScancode (c : Cfg) (sc : Byte) : Bool := sc == 0x00#8 && !c.zeroScancodeEmits

/-- `Frame(sc, ev, origin)`: the byte it appends, or none (R55). -/
def frame (c : Cfg) (enabled : Bool) (origin : Origin) (e : Event) : Option Byte :=
  if silentScancode c e.scancode then none
  else if gateOpen c enabled origin then some (frameByte e)
  else none

/-- `Emit` (origin key) and `EmitMod` (origin mod) of one event (R55). -/
def emit (origin : Origin) (s : State) (e : Event) : State :=
  match frame s.cfg s.keyboardEnabled origin e with
  | some b => s.appendKbd b
  | none => s

/-- A sequence of events, emitted in order (R10, R56). -/
def emitAll (origin : Origin) (s : State) (events : List Event) : State := events.foldl (emit origin) s

/-- The bytes that a sequence of events appends to KbdOut. -/
def framedBytes (origin : Origin) (s : State) (events : List Event) : List Byte :=
  events.filterMap (frame s.cfg s.keyboardEnabled origin)

/-! The mouse channel. -/

/-- The three bytes of the mouse packet (R75, R191). -/
def packet (s : State) : List Byte :=
  [packetByte0 s.accDX s.accDY s.btnR s.btnL, trunc8 (sext16 s.accDX), trunc8 (sext16 s.accDY)]

/-- `FrameEmit()`: the packet is appended in order and both accumulators are cleared; the buttons stay (R192). -/
def frameEmit (s : State) : State :=
  (packet s).foldl State.appendMouse ((s.setAccDX 0).setAccDY 0)

/-! Delivered transactions. -/

/-- The oldest delivered transaction and the state that holds the rest (R61). -/
def takeTransaction (s : State) : Option (Transaction × State) :=
  match s.pending with
  | [] => none
  | t :: rest => some (t, s.setPending rest)

end Sys2Proof.Machine
end

