-- ==== Sys2Proof/Machine/HostCommands.lean ====
section
/-! DEFINITION. The thirteen classes of HOST (43_host_commands.md R170 to R185). Each ends by storing its byte as
LastByte (R171). -/

namespace Sys2Proof.Machine

/-- `HOST 0x40` (R173): a frame exactly when the byte before was 0x41. -/
def execHostMsctrlTrigger (s : State) : Host.Outcome State Fault Refusal :=
  .next ((if s.lastByte = 0x41#8 then frameEmit s else s).setLastByte 0x40#8)

/-- `HOST 0x41` (R174). -/
def execHostTriggerArm (s : State) : Host.Outcome State Fault Refusal := .next (s.setLastByte 0x41#8)

/-- `HOST 0x42`..`0x47`, `0x4A`..`0x4F` (R175). -/
def execHostSpecialIgnored (lo : Nibble) (s : State) : Host.Outcome State Fault Refusal :=
  .next (s.setLastByte (byteOf 0x4#4 lo))

/-- `HOST 0x48` (R176). -/
def execHostKbdDisable (s : State) : Host.Outcome State Fault Refusal :=
  .next ((s.setKeyboardEnabled false).setLastByte 0x48#8)

/-- `HOST 0x49` (R177). -/
def execHostKbdEnable (s : State) : Host.Outcome State Fault Refusal :=
  .next ((s.setKeyboardEnabled true).setLastByte 0x49#8)

/-- `HOST 0x50`..`0x5F` (R178). -/
def execHostReserved5x (lo : Nibble) (s : State) : Host.Outcome State Fault Refusal :=
  .next (s.setLastByte (byteOf 0x5#4 lo))

/-- `HOST 0x60`..`0x6F` (R179): auto-repeat is absent. -/
def execHostRepeatDelay (lo : Nibble) (s : State) : Host.Outcome State Fault Refusal :=
  .next (s.setLastByte (byteOf 0x6#4 lo))

/-- `HOST 0x70`..`0x7F` (R180): auto-repeat is absent. -/
def execHostRepeatInterval (lo : Nibble) (s : State) : Host.Outcome State Fault Refusal :=
  .next (s.setLastByte (byteOf 0x7#4 lo))

/-- `HOST 0x80`..`0x8F` (R181): the block has no LED state. -/
def execHostLedStatus (lo : Nibble) (s : State) : Host.Outcome State Fault Refusal :=
  .next (s.setLastByte (byteOf 0x8#4 lo))

/-- `HOST 0xF0`..`0xFC`, `0xFE` (R184). -/
def execHostOtherFxIgnored (lo : Nibble) (s : State) : Host.Outcome State Fault Refusal :=
  .next (s.setLastByte (byteOf 0xF#4 lo))

/-- `HOST 0xFD` (R182): there is no repeat or timing state to reset. -/
def execHostHello (s : State) : Host.Outcome State Fault Refusal := .next (s.setLastByte 0xFD#8)

/-- `HOST 0xFF` (R183): there is no repeat or timing state to reset. -/
def execHostGoodbye (s : State) : Host.Outcome State Fault Refusal := .next (s.setLastByte 0xFF#8)

/-- `HOST 0x00`..`0x3F`, `0x90`..`0xEF` (R185). -/
def execHostUnrecognized (b : Byte) (s : State) : Host.Outcome State Fault Refusal := .next (s.setLastByte b)

end Sys2Proof.Machine
end

