-- ==== Sys2Proof/Machine/Modifiers.lean ====
section
/-! DEFINITION. MODS: the Modifier State Machine (41_modifiers.md R130 to R141). -/

namespace Sys2Proof.Machine

/-- The legacy scancode of a modifier; the GUI keys emit none (R133 to R137). -/
def modifierScancode (c : Cfg) : Modifier → Option Byte
  | .lctrl => some c.lctrlSc
  | .lshift => some c.shiftSc
  | .lalt => some c.laltSc
  | .lgui => none
  | .rctrl => some c.rctrlSc
  | .rshift => some c.shiftSc
  | .ralt => some c.raltSc
  | .rgui => none

/-- The event of one modifier bit: none if it did not change or has no scancode (R131). -/
def modifierEvent (c : Cfg) (q m : Byte) (d : Modifier) : Option Event :=
  if modifierChanged q m d then
    match modifierScancode c d with
    | some sc => some ⟨sc, edgeKind (modifierHeld m d)⟩
    | none => none
  else none

/-- The events of a report, `onModifierChange(previousBitmask, currentBitmask)`, in evaluation order (R130, R132). -/
def modifierEvents (c : Cfg) (q m : Byte) : List Event := modifierOrder.filterMap (modifierEvent c q m)

/-- `ShiftPolicy(m, q)` (R130). -/
def shiftPolicy (c : Cfg) (q m : Byte) : Bool :=
  match c.shiftStatePolicy with
  | .orOfBits => modifierHeld m .lshift || modifierHeld m .rshift
  | .lastEdge => if modifierChanged q m .rshift then modifierHeld m .rshift else modifierHeld m .lshift

/-- AltLayerState after a report: the new Left-GUI bit when it changed (R135). -/
def nextAltLayerState (s : State) (m : Byte) : Bool :=
  if modifierChanged s.prevMods m .lgui then modifierHeld m .lgui else s.altLayerState

/-- ShiftState after a report: the policy's value when a Shift bit changed (R134). -/
def nextShiftState (s : State) (m : Byte) : Bool :=
  if modifierChanged s.prevMods m .lshift || modifierChanged s.prevMods m .rshift then shiftPolicy s.cfg s.prevMods m
  else s.shiftState

/-- `MODS m` (R130): the events of the changed bits, then AltLayerState, ShiftState and PrevMods, which are written
whether or not the gate drops the bytes (R138). -/
def execMods (m : Byte) (s : State) : Host.Outcome State Fault Refusal :=
  .next ((((emitAll .mod s (modifierEvents s.cfg s.prevMods m)).setAltLayerState (nextAltLayerState s m)).setShiftState
    (nextShiftState s m)).setPrevMods m)

end Sys2Proof.Machine
end

