-- ==== Sys2Proof/Machine/Mouse.lean ====
section
/-! DEFINITION. MOVE and BUTTON: the Mouse Accumulator (42_mouse_accumulator.md R150 to R156). -/

namespace Sys2Proof.Machine

/-- Both accumulators plus the quotient of their delta (R150, R151). -/
def addMotion (dx dy : Int) (s : State) : State :=
  (s.setAccDX (accumulate s.cfg.acc16Mode s.accDX (tdiv dx s.cfg.mouseDivider))).setAccDY
    (accumulate s.cfg.acc16Mode s.accDY (tdiv dy s.cfg.mouseDivider))

/-- `MOVE dx, dy` (R150): a delta outside the interface is refused (R203), and so is the divider 0, which no
well-formed configuration has (R31 (d)). -/
def execMove (dx dy : Int) (s : State) : Host.Outcome State Fault Refusal :=
  if !(deltaInRange s.cfg dx && deltaInRange s.cfg dy) then .refused .moveOutsideRange
  else if !dividerOk s.cfg then .refused (.configFault .divider)
  else .next (addMotion dx dy s)

/-- `BUTTON which, down` (R153): the named button takes the new value; any other button is a no-op (R155). -/
def execButton (which : Button) (down : Bool) (s : State) : Host.Outcome State Fault Refusal :=
  match which with
  | .left => .next (s.setBtnL down)
  | .right => .next (s.setBtnR down)
  | .other => .next s

end Sys2Proof.Machine
end

