-- ==== Sys2Proof/Machine/Remapper.lean ====
section
/-! DEFINITION. KEY: the Remapper (40_remapper.md R100 to R113). -/

namespace Sys2Proof.Machine

/-- The shifted branch's force-unshift events (R103 press, R104 release). -/
def forceUnshiftEvents (c : Cfg) (v : Byte) : EventType → List Event
  | .press => [⟨c.shiftSc, .release⟩, ⟨v, .press⟩, ⟨c.shiftSc, .press⟩]
  | .release => [⟨v, .release⟩]

/-- The unshifted branch's force-shift events (R107 press, R108 release). -/
def forceShiftEvents (c : Cfg) (v : Byte) : EventType → List Event
  | .press => [⟨c.shiftSc, .press⟩, ⟨v, .press⟩, ⟨c.shiftSc, .release⟩]
  | .release => [⟨v, .release⟩]

/-- `Emit(Table(SCANCODE_TABLE, k), p)` (R106, R109). -/
def plainEvents (c : Cfg) (k : Byte) (p : EventType) : Option (List Event) :=
  match tableRead c.scancodeTable k with
  | some sc => some [⟨sc, p⟩]
  | none => none

/-- The shift override if it is nonzero, else the plain entry (R105, R106). -/
def overrideEvents (c : Cfg) (k : Byte) (p : EventType) : Option (List Event) :=
  match tableRead c.shiftOverrideTable k with
  | some o => if o ≠ 0x00#8 then some [⟨o, p⟩] else plainEvents c k p
  | none => none

/-- The alt-layer path (R101). -/
def altEvents (c : Cfg) (k : Byte) (p : EventType) : List Event :=
  match lookup c.altKeyTable k with
  | some v => [⟨v, p⟩]
  | none => []

/-- The shifted branch (R103 to R106). -/
def shiftedEvents (c : Cfg) (k : Byte) (p : EventType) : Option (List Event) :=
  match lookup c.forceUnshiftList k with
  | some v => some (forceUnshiftEvents c v p)
  | none => overrideEvents c k p

/-- The unshifted branch (R107 to R109). -/
def unshiftedEvents (c : Cfg) (k : Byte) (p : EventType) : Option (List Event) :=
  match lookup c.forceShiftList k with
  | some v => some (forceShiftEvents c v p)
  | none => plainEvents c k p

/-- The events of a key edge, `emit(keycode, isPress, shiftState, altLayerActive)` (R100); none where a table that is
shorter than TABLE_LEN leaves the read undefined (R50), which no well-formed configuration does. -/
def remap (c : Cfg) (altLayer shift : Bool) (k : Byte) (p : EventType) : Option (List Event) :=
  if altLayer then some (altEvents c k p)
  else if c.tableLen ≤ k.toNat then some []
  else if shift then shiftedEvents c k p
  else unshiftedEvents c k p

/-- `KEY k, p` (R100): the events of the edge, each through the gate; no register is written (R111). -/
def execKey (k : Byte) (p : EventType) (s : State) : Host.Outcome State Fault Refusal :=
  match remap s.cfg s.altLayerState s.shiftState k p with
  | some events => .next (emitAll .key s events)
  | none => .refused (.configFault .arrayLength)

end Sys2Proof.Machine
end

