-- ==== Sys2Proof/Machine/Dispatch.lean ====
section
/-! DEFINITION. The dispatch of the instructions to their meanings (10_state.md R41). -/

namespace Sys2Proof.Machine

def exec (i : Instr) (s : State) : Host.Outcome State Fault Refusal :=
  match i with
  -- HOST (43_host_commands.md)
  | .hostMsctrlTrigger => Sys2Proof.Machine.execHostMsctrlTrigger s
  | .hostTriggerArm => Sys2Proof.Machine.execHostTriggerArm s
  | .hostSpecialIgnored lo => Sys2Proof.Machine.execHostSpecialIgnored lo s
  | .hostKbdDisable => Sys2Proof.Machine.execHostKbdDisable s
  | .hostKbdEnable => Sys2Proof.Machine.execHostKbdEnable s
  | .hostReserved5x lo => Sys2Proof.Machine.execHostReserved5x lo s
  | .hostRepeatDelay lo => Sys2Proof.Machine.execHostRepeatDelay lo s
  | .hostRepeatInterval lo => Sys2Proof.Machine.execHostRepeatInterval lo s
  | .hostLedStatus lo => Sys2Proof.Machine.execHostLedStatus lo s
  | .hostOtherFxIgnored lo => Sys2Proof.Machine.execHostOtherFxIgnored lo s
  | .hostHello => Sys2Proof.Machine.execHostHello s
  | .hostGoodbye => Sys2Proof.Machine.execHostGoodbye s
  | .hostUnrecognized b => Sys2Proof.Machine.execHostUnrecognized b s
  -- KEY (40_remapper.md), MODS (41_modifiers.md), MOVE and BUTTON (42_mouse_accumulator.md)
  | .key k p => Sys2Proof.Machine.execKey k p s
  | .mods mask => Sys2Proof.Machine.execMods mask s
  | .move dx dy => Sys2Proof.Machine.execMove dx dy s
  | .button which down => Sys2Proof.Machine.execButton which down s

end Sys2Proof.Machine
end

