-- ==== Sys2Proof/Machine/Step.lean ====
section
/-! DEFINITION. One step: the configuration is checked, then the oldest delivered transaction is performed
(10_state.md R40, 60_exceptions.md R202, R204). -/

namespace Sys2Proof.Machine

/-- One step (R40). A configuration that fails R31 is refused before any transaction (R202). With nothing delivered a
step changes nothing: "a poll with nothing pending delivers nothing" (R204; log 6). -/
def step (s : State) : Host.Outcome State Fault Refusal :=
  match configCheck s.cfg with
  | some reason => .refused (.configFault reason)
  | none =>
    match takeTransaction s with
    | none => .next s
    | some (t, rest) => exec (decode t) rest

/-- The state in which the bytes of an opcode-table word have just arrived on `host_rx` ahead of every other input,
so that the next step performs the first of them (log 7). -/
def State.withFetchWord (s : State) (nbits w : Nat) : State :=
  s.setPending ((bytesOfWord (byteCount nbits) w).map Transaction.host ++ s.pending)

end Sys2Proof.Machine
end

