-- ==== Sys2Proof/Machine/Environment.lean ====
section
/-! DEFINITION. What the outside world does to the block: delivering inputs by the polling loop (60_exceptions.md R204,
R205), booting under a configuration (70_reset_and_hazards.md R233) and cycling the power (R214). None of these is a
step of the block. -/

namespace Sys2Proof.Machine

/-- One input arrives after those already delivered. -/
def State.deliver (s : State) (t : Transaction) : State := s.setPending (s.pending ++ [t])

/-- What one pass of the polling loop delivers: the USB callbacks it fires, then the host bytes it drains (R204). -/
structure PollPass where
  usb : List Transaction
  host : List Byte
deriving DecidableEq, Repr

/-- The USB part of a pass holds only USB-side transactions. -/
def PollPass.wellFormed (p : PollPass) : Bool := p.usb.all fun t => t.source == .usb

/-- The inputs of a pass in the order the loop serves them: the USB side, then the host side (R205). -/
def PollPass.inputs (p : PollPass) : List Transaction := p.usb ++ p.host.map Transaction.host

/-- The inputs of several passes. -/
def passesInputs (ps : List PollPass) : List Transaction := ps.flatMap PollPass.inputs

/-- The polling loop runs some passes. -/
def State.deliverPasses (s : State) (ps : List PollPass) : State := s.setPending (s.pending ++ passesInputs ps)

/-- Boot: the configuration is checked first, and "the model has no initial state" for one that fails (R202, R233). -/
def boot (c : Cfg) : Except ConfigReason State :=
  match configCheck c with
  | some reason => .error reason
  | none => .ok (State.resetWith c)

/-- A power cycle loses all state; the next power-on is a reset under the same configuration (R214, R230; log 11). -/
def State.powerCycle (s : State) : State := State.resetWith s.cfg

end Sys2Proof.Machine
end

