-- ==== Sys2Proof/Machine/Script.lean ====
section
/-! DEFINITION. The script syntax and its pseudo-transactions (30_encoding.md R85, R86), the spec's own notation for
sequences of transactions. It has no effect on the block (92_eei_decisions.md D25). Log 10 names the conventions of
the text form that R85 leaves open. -/

namespace Sys2Proof.Machine

/-- The transactions a pseudo-transaction stands for, in order (R86). -/
def expandPseudo : Pseudo → List Transaction
  | .tap k => [.key k .press, .key k .release]
  | .poll => [.host 0x41#8, .host 0x40#8]
  | .kbdOff => [.host 0x48#8]
  | .kbdOn => [.host 0x49#8]
  | .clickLeft => [.button .left true, .button .left false]

/-- The transactions of a script line. -/
def expandLine : ScriptLine → List Transaction
  | .plain t => [t]
  | .pseudo p => expandPseudo p

/-- The transactions of a script. -/
def expandScript (lines : List ScriptLine) : List Transaction := lines.flatMap expandLine

/-- A word under construction, if it holds anything. -/
def flushWord (w : List Char) : List (List Char) := if w.isEmpty then [] else [w]

/-- The words of a line: blanks separate, a comma is a word of its own, `;` begins a comment (R85). -/
def lineWords : List Char → List Char → List (List Char)
  | [], w => flushWord w
  | c :: cs, w =>
    if c = ';' then flushWord w
    else if c = ' ' ∨ c = '\t' then flushWord w ++ lineWords cs []
    else if c = ',' then flushWord w ++ [','] :: lineWords cs []
    else lineWords cs (w ++ [c])

/-- The value of a digit, decimal or hexadecimal. -/
def digitValue (c : Char) : Option Nat :=
  if 48 ≤ c.toNat ∧ c.toNat ≤ 57 then some (c.toNat - 48)
  else if 65 ≤ c.toNat ∧ c.toNat ≤ 70 then some (c.toNat - 55)
  else if 97 ≤ c.toNat ∧ c.toNat ≤ 102 then some (c.toNat - 87)
  else none

/-- The digits of a base, most significant first, after the value so far. -/
def digitsFrom (base : Nat) : Nat → List Char → Option Nat
  | acc, [] => some acc
  | acc, c :: cs =>
    match digitValue c with
    | some d => if d < base then digitsFrom base (acc * base + d) cs else none
    | none => none

/-- A number without sign: `0x` and hexadecimal digits, or decimal digits (R85). -/
def wordNat : List Char → Option Nat
  | [] => none
  | ['0', 'x'] => none
  | '0' :: 'x' :: cs => digitsFrom 16 0 cs
  | cs => digitsFrom 10 0 cs

/-- A number, with a minus sign for a negative one. -/
def wordInt : List Char → Option Int
  | '-' :: cs => (wordNat cs).map fun n => -(n : Int)
  | cs => (wordNat cs).map fun n => (n : Int)

/-- A byte operand: a number below 256. -/
def wordByte (w : List Char) : Option Byte :=
  match wordNat w with
  | some n => if n < 256 then some (BitVec.ofNat 8 n) else none
  | none => none

/-- `press` or `release`. -/
def wordEvent (w : List Char) : Option EventType :=
  if w = ['p', 'r', 'e', 's', 's'] then some .press
  else if w = ['r', 'e', 'l', 'e', 'a', 's', 'e'] then some .release
  else none

/-- `left`, `right` or `other`. -/
def wordButton (w : List Char) : Option Button :=
  if w = ['l', 'e', 'f', 't'] then some .left
  else if w = ['r', 'i', 'g', 'h', 't'] then some .right
  else if w = ['o', 't', 'h', 'e', 'r'] then some .other
  else none

/-- `down` or `up`. -/
def wordDown (w : List Char) : Option Bool :=
  if w = ['d', 'o', 'w', 'n'] then some true
  else if w = ['u', 'p'] then some false
  else none

/-- A line of one word. -/
def parseNullary (m : List Char) : Option ScriptLine :=
  if m = ['P', 'O', 'L', 'L'] then some (.pseudo .poll)
  else if m = ['K', 'B', 'D', 'O', 'F', 'F'] then some (.pseudo .kbdOff)
  else if m = ['K', 'B', 'D', 'O', 'N'] then some (.pseudo .kbdOn)
  else none

/-- A line of a mnemonic and one operand. -/
def parseUnary (m a : List Char) : Option ScriptLine :=
  if m = ['M', 'O', 'D', 'S'] then (wordByte a).map fun b => .plain (.mods b)
  else if m = ['H', 'O', 'S', 'T'] then (wordByte a).map fun b => .plain (.host b)
  else if m = ['T', 'A', 'P'] then (wordByte a).map fun b => .pseudo (.tap b)
  else if m = ['C', 'L', 'I', 'C', 'K'] ∧ wordButton a = some .left then some (.pseudo .clickLeft)
  else none

/-- A line of a mnemonic and two operands. -/
def parseBinary (m a b : List Char) : Option ScriptLine :=
  if m = ['K', 'E', 'Y'] then
    match wordByte a, wordEvent b with
    | some k, some p => some (.plain (.key k p))
    | _, _ => none
  else if m = ['M', 'O', 'V', 'E'] then
    match wordInt a, wordInt b with
    | some dx, some dy => some (.plain (.move dx dy))
    | _, _ => none
  else if m = ['B', 'U', 'T', 'T', 'O', 'N'] then
    match wordButton a, wordDown b with
    | some w, some d => some (.plain (.button w d))
    | _, _ => none
  else none

/-- The script lines of one line of text: none on a blank or comment line, one otherwise; rejected if it is neither a
transaction nor a pseudo-transaction (R85, R86). -/
def parseLine (text : List Char) : Option (List ScriptLine) :=
  match lineWords text [] with
  | [] => some []
  | [m] => (parseNullary m).map fun l => [l]
  | [m, a] => (parseUnary m a).map fun l => [l]
  | [m, a, comma, b] => if comma = [','] then (parseBinary m a b).map fun l => [l] else none
  | _ => none

/-- The environment delivers a script. -/
def State.deliverScript (s : State) (lines : List ScriptLine) : State :=
  s.setPending (s.pending ++ expandScript lines)

end Sys2Proof.Machine
end

