-- ==== Sys2Proof/Safety.lean ====
section
/-! DEFINITION. The terms claims use: admissible states, safe runs, the modifier invariant (41_modifiers.md R139), and
which inputs can matter to which output channel. -/

namespace Sys2Proof.Machine

/-- Every delivered transaction has valid fields (30_encoding.md R81). -/
abbrev InputsValid (s : State) : Prop := ∀ t ∈ s.pending, transactionValid s.cfg t = true

/-- A state the spec gives a run to: a well-formed configuration (R31) and inputs inside the interface (R203). -/
abbrev Admissible (s : State) : Prop := CfgWellFormed s.cfg ∧ InputsValid s

/-- Performing every delivered transaction, oldest first. -/
def runInputs (s : State) : Host.Outcome State Fault Refusal := Host.Core.run Sys2Proof.core s.pending.length s

/-- A safe run: no delivered transaction is refused. -/
def RunSafe (s : State) : Prop := ∃ t, runInputs s = .next t

/-- The invariant of R139: (a) AltLayerState is the Left-GUI bit of PrevMods; (b) under `or_of_bits` ShiftState is the
OR of its two Shift bits. -/
abbrev ModifierConsistent (s : State) : Prop :=
  s.altLayerState = s.prevMods.getLsbD 3 ∧
    (s.cfg.shiftStatePolicy = .orOfBits → s.shiftState = (s.prevMods.getLsbD 1 || s.prevMods.getLsbD 5))

/-- Inputs that can matter to the mouse channel: MOVE, BUTTON and every HOST byte. -/
def mouseInput : Transaction → Bool
  | .key _ _ => false
  | .mods _ => false
  | .move _ _ => true
  | .button _ _ => true
  | .host _ => true

/-- Inputs that can matter to the keyboard channel: KEY, MODS, and the host bytes 0x48 and 0x49. -/
def keyboardInput : Transaction → Bool
  | .key _ _ => true
  | .mods _ => true
  | .move _ _ => false
  | .button _ _ => false
  | .host b => b == 0x48#8 || b == 0x49#8

/-- The state with only some of its delivered inputs. -/
def State.keepInputs (s : State) (keep : Transaction → Bool) : State := s.setPending (s.pending.filter keep)

/-- The sum of the quotients of a list of deltas (42_mouse_accumulator.md R151). -/
def quotientSum (divider : Nat) (deltas : List Int) : Int := (deltas.map fun d => tdiv d divider).sum

/-- The event a changed modifier bit gives with its scancode; none from a bit that did not change (R131). -/
def changedBitEvents (q m : Byte) (i : Nat) (sc : Byte) : List Event :=
  if m.getLsbD i = q.getLsbD i then [] else [⟨sc, if m.getLsbD i then .press else .release⟩]

/-- Performing a given list of transactions from a state. -/
def runFrom (s : State) (ts : List Transaction) : Host.Outcome State Fault Refusal := runInputs (s.setPending ts)

end Sys2Proof.Machine
end

