-- ==== Sys2Proof/Certificates/Slice0/Obligations.lean ====
section
/-! DEFINITION. The statements for the provers. Each holds for every configuration that State can hold, unless it names
a condition on it. Where a title or docstring says "decision", the rule is one the spec marks as its own choice. -/

open Sys2Proof Sys2Proof.Machine

/-! Encoding. -/

/-- 30_encoding.md sections 1 and 4: decoding what a well-formed instruction is encoded as gives it back. -/
def Obligations.DecodeInvertsEncode : Prop :=
  ∀ i : Instr, i.wellFormed = true → decode (encode i) = i

/-- 30_encoding.md sections 1 and 4: every transaction, so every host byte, is the encoding of the one well-formed
instruction it decodes to. -/
def Obligations.EveryTransactionIsOneInstruction : Prop :=
  ∀ t : Transaction, (decode t).wellFormed = true ∧ encode (decode t) = t

/-- 30_encoding.md section 1: every host byte lies in exactly one row of the opcode table, and that row bears the
mnemonic of the instruction the byte decodes to. -/
def Obligations.HostByteInExactlyOneTableRow : Prop :=
  ∀ b : Byte, ∃ r ∈ hostRows, r.holds b = true ∧ (decodeHostByte b).hostClass = some r.cls ∧
    ∀ r' ∈ hostRows, r'.holds b = true → r' = r

/-- 30_encoding.md section 1: words of each family, written out in bits, decode to the instruction they stand for. -/
def Obligations.SampleWordsDecode : Prop :=
  decodeTableWord 8 0b01000000 = some .hostMsctrlTrigger ∧
  decodeTableWord 8 0b01000001 = some .hostTriggerArm ∧
  decodeTableWord 8 0b01001000 = some .hostKbdDisable ∧
  decodeTableWord 8 0b01001001 = some .hostKbdEnable ∧
  decodeTableWord 8 0b01001010 = some (.hostSpecialIgnored 0b1010#4) ∧
  decodeTableWord 8 0b01100011 = some (.hostRepeatDelay 0b0011#4) ∧
  decodeTableWord 8 0b11111110 = some (.hostOtherFxIgnored 0b1110#4) ∧
  decodeTableWord 8 0b10011100 = some (.hostUnrecognized 0b10011100#8)

/-! The step. -/

/-- 10_state.md section 4 (R40, R41): with a well-formed configuration a step performs the oldest delivered
transaction, which is the decoded instruction's meaning on the state that holds the other inputs. -/
def Obligations.StepPerformsOldestTransaction : Prop :=
  ∀ (s : State) (i : Instr) (rest : List Transaction), CfgWellFormed s.cfg → i.wellFormed = true →
    s.pending = encode i :: rest → step s = exec i { s with pending := rest }

/-- The model's deduction (log entry 6) from 60_exceptions.md section 2 (R204, "a poll with nothing pending delivers
nothing"): a step with nothing delivered changes nothing. -/
def Obligations.StepWithoutInputChangesNothing : Prop :=
  ∀ s : State, CfgWellFormed s.cfg → s.pending = [] → step s = .next s

/-- 10_state.md section 2 (R31): the configuration check passes exactly when (a) to (g) all hold. -/
def Obligations.ConfigCheckIsItsSevenConditions : Prop :=
  ∀ c : Cfg, CfgWellFormed c ↔
    ((1 ≤ c.tableLen ∧ c.tableLen ≤ 256) ∧
    (c.scancodeTable.length = c.tableLen ∧ c.shiftOverrideTable.length = c.tableLen) ∧
    c.scancodeTable[0]? = some 0x00#8 ∧
    1 ≤ c.mouseDivider ∧
    c.autoRepeat = false ∧
    (-32768 ≤ c.mouseDeltaMin ∧ c.mouseDeltaMin ≤ 0 ∧ 0 ≤ c.mouseDeltaMax ∧ c.mouseDeltaMax ≤ 32767) ∧
    (c.rejectDuplicateKeys = true → (c.forceShiftList.map Prod.fst).Nodup ∧
      (c.forceUnshiftList.map Prod.fst).Nodup ∧ (c.altKeyTable.map Prod.fst).Nodup))

/-- 60_exceptions.md section 1 (R202, a decision): a configuration that fails a check is refused before any
transaction, and has no initial state. -/
def Obligations.IllFormedConfigIsRefused : Prop :=
  ∀ (s : State) (r : ConfigReason), configCheck s.cfg = some r →
    step s = .refused (.configFault r) ∧ boot s.cfg = .error r

/-- 60_exceptions.md section 1 (R200): every transaction with valid fields completes in one step. -/
def Obligations.AdmissibleStepCompletes : Prop :=
  ∀ (s : State) (t : Transaction) (rest : List Transaction), Admissible s → s.pending = t :: rest →
    ∃ s', step s = .next s' ∧ s'.pending = rest ∧ Admissible s'

/-- 70_reset_and_hazards.md section 4 (R250; fairness is the spec's decision D1): every delivered input is performed.
-/
def Obligations.AdmissibleRunPerformsEveryInput : Prop :=
  ∀ s : State, Admissible s → RunSafe s ∧ ∀ t, runInputs s = .next t → t.pending = []

/-- R52: no step changes the configuration, so every table read answers the same on every transaction. -/
def Obligations.TablesAreImmutable : Prop :=
  ∀ s s' : State, step s = .next s' → s'.cfg = s.cfg ∧
    ∀ k : Byte, tableRead s'.cfg.scancodeTable k = tableRead s.cfg.scancodeTable k ∧
      tableRead s'.cfg.shiftOverrideTable k = tableRead s.cfg.shiftOverrideTable k ∧
      lookup s'.cfg.forceShiftList k = lookup s.cfg.forceShiftList k ∧
      lookup s'.cfg.forceUnshiftList k = lookup s.cfg.forceUnshiftList k ∧
      lookup s'.cfg.altKeyTable k = lookup s.cfg.altKeyTable k

/-- 20_memory.md section 2 (R53, R54): both output streams only grow. A step appends at most 6 keyboard bytes, which
follows from 41_modifiers.md sections 1 and 4 (R130; R140, which the spec derives) and 40_remapper.md section 3 (R113,
which the spec derives), and 0 or 3 mouse bytes (43_host_commands.md section 6, R192). -/
def Obligations.OutputStreamsOnlyGrow : Prop :=
  ∀ s s' : State, step s = .next s' →
    (∃ bs, s'.kbdOut = s.kbdOut ++ bs ∧ bs.length ≤ 6) ∧
    (∃ bs, s'.mouseOut = s.mouseOut ++ bs ∧ (bs.length = 0 ∨ bs.length = 3))

/-- 70_reset_and_hazards.md section 3 (R245) and 20_memory.md R54: the mouse stream grows exactly when 0x40 directly
follows 0x41. -/
def Obligations.MouseStreamGrowsOnlyOnTrigger : Prop :=
  ∀ (s s' : State) (t : Transaction) (rest : List Transaction), s.pending = t :: rest → step s = .next s' →
    (s'.mouseOut ≠ s.mouseOut ↔ t = .host 0x40#8 ∧ s.lastByte = 0x41#8)

/-- 10_state.md section 1 (R20, "written by"): which instructions can change which part of the state. -/
def Obligations.OnlyTheListedInstructionsWriteARegister : Prop :=
  ∀ (i : Instr) (s t : State), exec i s = .next t →
    (t.shiftState ≠ s.shiftState ∨ t.altLayerState ≠ s.altLayerState ∨ t.prevMods ≠ s.prevMods → ∃ m, i = .mods m) ∧
    (t.keyboardEnabled ≠ s.keyboardEnabled → i = .hostKbdDisable ∨ i = .hostKbdEnable) ∧
    (t.lastByte ≠ s.lastByte → i.hostClass.isSome = true) ∧
    (t.accDX ≠ s.accDX ∨ t.accDY ≠ s.accDY → i = .hostMsctrlTrigger ∨ ∃ dx dy, i = .move dx dy) ∧
    (t.btnL ≠ s.btnL → ∃ d, i = .button .left d) ∧ (t.btnR ≠ s.btnR → ∃ d, i = .button .right d) ∧
    (t.kbdOut ≠ s.kbdOut → (∃ k p, i = .key k p) ∨ ∃ m, i = .mods m) ∧
    (t.mouseOut ≠ s.mouseOut → i = .hostMsctrlTrigger) ∧ t.cfg = s.cfg ∧ t.pending = s.pending

/-- 60_exceptions.md section 4 (R209, a decision): the USB side cannot change KeyboardEnabled or LastByte, and the
host side cannot change the modifier state, the buttons or the accumulators other than by a frame. -/
def Obligations.EachSideLeavesTheOthersStateAlone : Prop :=
  ∀ (s s' : State) (t : Transaction) (rest : List Transaction), s.pending = t :: rest → step s = .next s' →
    (t.source = .usb → s'.keyboardEnabled = s.keyboardEnabled ∧ s'.lastByte = s.lastByte ∧ s'.mouseOut = s.mouseOut) ∧
    (t.source = .host → s'.shiftState = s.shiftState ∧ s'.altLayerState = s.altLayerState ∧
      s'.prevMods = s.prevMods ∧ s'.btnL = s.btnL ∧ s'.btnR = s.btnR ∧ s'.kbdOut = s.kbdOut ∧
      (s'.accDX ≠ s.accDX ∨ s'.accDY ≠ s.accDY →
        s'.mouseOut = s.mouseOut ++ packet s ∧ s'.accDX = 0 ∧ s'.accDY = 0))

/-- 60_exceptions.md section 2 (R205, a decision): the polling loop can deliver every order of inputs, and whatever it
delivers keeps each source's own order. -/
def Obligations.PollingAdmitsEveryInterleaving : Prop :=
  (∀ ts : List Transaction, ∃ ps : List PollPass,
    (∀ p ∈ ps, p.wellFormed = true) ∧ passesInputs ps = ts) ∧
  (∀ ps : List PollPass, (∀ p ∈ ps, p.wellFormed = true) →
    (passesInputs ps).filter (fun t => t.source == .usb) = ps.flatMap PollPass.usb ∧
    (passesInputs ps).filter (fun t => t.source == .host) = (ps.flatMap PollPass.host).map Transaction.host)

/-! Tables and the keyboard frame generator. -/

/-- R51: the search answers the value of the first pair with the key, and none exactly when no pair has it. -/
def Obligations.LookupAnswersFirstMatch : Prop :=
  ∀ (l : List (Byte × Byte)) (k : Byte),
    (∀ v, lookup l k = some v ↔ ∃ before after, l = before ++ (k, v) :: after ∧ ∀ p ∈ before, p.1 ≠ k) ∧
    (lookup l k = none ↔ ∀ p ∈ l, p.1 ≠ k)

/-- R74: the low 7 bits of a framed byte are the scancode's, and bit 7 is set exactly for a release. -/
def Obligations.FramedByteFields : Prop :=
  ∀ e : Event, ((frameByte e).getLsbD 7 = true ↔ e.kind = .release) ∧
    ∀ i, i < 7 → (frameByte e).getLsbD i = e.scancode.getLsbD i

/-- 20_memory.md section 2 (R55; the zero test and the gate's scope are decisions): emitting one event drops a silent
zero scancode, drops everything while the gate is shut, and else appends the framed byte; nothing else changes. -/
def Obligations.EmitAppendsOneFramedByteOrNothing : Prop :=
  ∀ (o : Origin) (s : State) (e : Event), emit o s e =
    if e.scancode = 0x00#8 ∧ s.cfg.zeroScancodeEmits = false then s
    else if s.keyboardEnabled = true ∨ (o = .mod ∧ s.cfg.kbdGateScope = .keyEventsOnly) then
      { s with kbdOut := s.kbdOut ++
          [if e.kind = .press then e.scancode &&& 0x7F#8 else e.scancode ||| 0x80#8] }
    else s

/-- 20_memory.md sections 2 and 3 (R55, R56; the zero test and the gate's scope are decisions): a sequence of events
appends, in its order, the framed byte of each event that is neither silent nor stopped by the gate. -/
def Obligations.EventsAreFramedInOrder : Prop :=
  ∀ (o : Origin) (s : State) (e : Event) (es : List Event),
    framedBytes o s [] = [] ∧
    framedBytes o s (e :: es) =
      (if e.scancode = 0x00#8 ∧ s.cfg.zeroScancodeEmits = false then []
       else if s.keyboardEnabled = true ∨ (o = .mod ∧ s.cfg.kbdGateScope = .keyEventsOnly) then [frameByte e]
       else []) ++ framedBytes o s es ∧
    emitAll o s es = { s with kbdOut := s.kbdOut ++ framedBytes o s es }

/-! KEY. -/

/-- R101: with the alt layer on, KEY emits the alt entry with the input's event type, or nothing. -/
def Obligations.KeyInAltLayer : Prop :=
  ∀ (s : State) (k : Byte) (p : EventType), s.altLayerState = true →
    exec (.key k p) s = .next
      { s with
        kbdOut := s.kbdOut ++
          framedBytes .key s (match lookup s.cfg.altKeyTable k with | some v => [⟨v, p⟩] | none => []) }

/-- R102: outside the alt layer a keycode outside the table's domain emits nothing. -/
def Obligations.KeyOutsideDomainEmitsNothing : Prop :=
  ∀ (s : State) (k : Byte) (p : EventType), s.altLayerState = false → s.cfg.tableLen ≤ k.toNat →
    exec (.key k p) s = .next s

/-- R103, R104: a force-unshift key while shifted gives Shift-release, V-press, Shift-press on a press, and V-release
alone on a release. -/
def Obligations.KeyForceUnshift : Prop :=
  ∀ (s : State) (k v : Byte), s.altLayerState = false → k.toNat < s.cfg.tableLen → s.shiftState = true →
    lookup s.cfg.forceUnshiftList k = some v →
    exec (.key k .press) s = .next
      { s with
        kbdOut := s.kbdOut ++
          framedBytes .key s [⟨s.cfg.shiftSc, .release⟩, ⟨v, .press⟩, ⟨s.cfg.shiftSc, .press⟩] } ∧
    exec (.key k .release) s = .next { s with kbdOut := s.kbdOut ++ framedBytes .key s [⟨v, .release⟩] }

/-- R105, R106: a key with no force-unshift pair while shifted gives its nonzero shift override, else its table entry,
with the input's event type. -/
def Obligations.KeyShiftedOverrideOrPlain : Prop :=
  ∀ (s : State) (k o sc : Byte) (p : EventType), CfgWellFormed s.cfg → s.altLayerState = false →
    k.toNat < s.cfg.tableLen → s.shiftState = true → lookup s.cfg.forceUnshiftList k = none →
    s.cfg.shiftOverrideTable[k.toNat]? = some o → s.cfg.scancodeTable[k.toNat]? = some sc →
    exec (.key k p) s = .next
      { s with kbdOut := s.kbdOut ++ framedBytes .key s [⟨if o = 0x00#8 then sc else o, p⟩] }

/-- R107, R108: a force-shift key while unshifted gives Shift-press, V-press, Shift-release on a press, and V-release
alone on a release. -/
def Obligations.KeyForceShift : Prop :=
  ∀ (s : State) (k v : Byte), s.altLayerState = false → k.toNat < s.cfg.tableLen → s.shiftState = false →
    lookup s.cfg.forceShiftList k = some v →
    exec (.key k .press) s = .next
      { s with
        kbdOut := s.kbdOut ++
          framedBytes .key s [⟨s.cfg.shiftSc, .press⟩, ⟨v, .press⟩, ⟨s.cfg.shiftSc, .release⟩] } ∧
    exec (.key k .release) s = .next { s with kbdOut := s.kbdOut ++ framedBytes .key s [⟨v, .release⟩] }

/-- R109: a key with no force-shift pair while unshifted gives its table entry with the input's event type. -/
def Obligations.KeyUnshiftedPlain : Prop :=
  ∀ (s : State) (k sc : Byte) (p : EventType), s.altLayerState = false → k.toNat < s.cfg.tableLen →
    s.shiftState = false → lookup s.cfg.forceShiftList k = none → s.cfg.scancodeTable[k.toNat]? = some sc →
    exec (.key k p) s = .next { s with kbdOut := s.kbdOut ++ framedBytes .key s [⟨sc, p⟩] }

/-- 40_remapper.md section 3 (R111): under a well-formed configuration KEY completes on every keycode and event, in
every state, and writes no register: it can only append to the keyboard stream. -/
def Obligations.KeyCompletesAndWritesNoRegister : Prop :=
  ∀ (s : State) (k : Byte) (p : EventType), CfgWellFormed s.cfg →
    ∃ bs, exec (.key k p) s = .next { s with kbdOut := s.kbdOut ++ bs }

/-- 40_remapper.md section 3 (R113, which the spec derives from R100): the Remapper gives 3 events only on the two
press paths of the force lists, 0 on an alt-layer miss or outside the domain, and 1 otherwise. -/
def Obligations.KeyEventCount : Prop :=
  ∀ (c : Cfg) (alt shift : Bool) (k : Byte) (p : EventType), CfgWellFormed c →
    ∃ es, remap c alt shift k p = some es ∧
      (es.length = 0 ∨ es.length = 1 ∨ es.length = 3) ∧
      (es.length = 0 ↔ (alt = true ∧ lookup c.altKeyTable k = none) ∨ (alt = false ∧ c.tableLen ≤ k.toNat)) ∧
      (es.length = 3 ↔ alt = false ∧ k.toNat < c.tableLen ∧ p = .press ∧
        ((shift = true ∧ lookup c.forceUnshiftList k ≠ none) ∨ (shift = false ∧ lookup c.forceShiftList k ≠ none)))

/-- 40_remapper.md section 3 (R112, which the spec derives from R55, R100 and R111): while the keyboard is disabled a
KEY changes nothing at all. -/
def Obligations.KeyWhileDisabledChangesNothing : Prop :=
  ∀ (s : State) (k : Byte) (p : EventType), CfgWellFormed s.cfg → s.keyboardEnabled = false →
    exec (.key k p) s = .next s

/-- 40_remapper.md section 3 (R110, a decision): in a three-event sequence only a zero scancode is removed, and with
ZERO_SCANCODE_EMITS it is sent as 0x00 and 0x80. -/
def Obligations.ZeroShiftScancodeInForceShift : Prop :=
  ∀ (s : State) (k v : Byte), s.altLayerState = false → k.toNat < s.cfg.tableLen → s.shiftState = false →
    s.keyboardEnabled = true → s.cfg.shiftSc = 0x00#8 → lookup s.cfg.forceShiftList k = some v → v ≠ 0x00#8 →
    exec (.key k .press) s = .next
      { s with
        kbdOut := s.kbdOut ++
          if s.cfg.zeroScancodeEmits = true then [0x00#8, v &&& 0x7F#8, 0x80#8] else [v &&& 0x7F#8] }

/-- 70_reset_and_hazards.md section 3 (R240, which the spec derives from R100 and R111): when Shift goes down between
a force-shift key's press and its release, the release names the plain scancode and not the one pressed. -/
def Obligations.ReleaseIsMappedUnderTheStateAtRelease : Prop :=
  ∀ (s : State) (k v sc : Byte), CfgWellFormed s.cfg → s.keyboardEnabled = true → s.altLayerState = false →
    s.shiftState = false → s.prevMods = 0x00#8 → s.cfg.shiftSc ≠ 0x00#8 → v ≠ 0x00#8 → sc ≠ 0x00#8 →
    k.toNat < s.cfg.tableLen → lookup s.cfg.forceShiftList k = some v → lookup s.cfg.forceUnshiftList k = none →
    s.cfg.shiftOverrideTable[k.toNat]? = some 0x00#8 → s.cfg.scancodeTable[k.toNat]? = some sc →
    ∃ t, runFrom s [.key k .press, .mods 0x02#8, .key k .release] = .next t ∧
      t.kbdOut = s.kbdOut ++ [s.cfg.shiftSc &&& 0x7F#8, v &&& 0x7F#8, s.cfg.shiftSc ||| 0x80#8,
        s.cfg.shiftSc &&& 0x7F#8, sc ||| 0x80#8]

/-! MODS. -/

/-- 41_modifiers.md sections 1 to 3 (R130; the bit order, the Left-GUI reading and the Shift policies are decisions):
the whole MODS transaction: the events of the changed bits in the order of the bits, AltLayerState, ShiftState under
either policy, and PrevMods; nothing else changes. -/
def Obligations.ModsTransaction : Prop :=
  ∀ (s : State) (m : Byte), exec (.mods m) s = .next { s with
    prevMods := m
    altLayerState := if m.getLsbD 3 = s.prevMods.getLsbD 3 then s.altLayerState else m.getLsbD 3
    shiftState :=
      if m.getLsbD 1 = s.prevMods.getLsbD 1 ∧ m.getLsbD 5 = s.prevMods.getLsbD 5 then s.shiftState
      else if s.cfg.shiftStatePolicy = .orOfBits then (m.getLsbD 1 || m.getLsbD 5)
      else if m.getLsbD 5 = s.prevMods.getLsbD 5 then m.getLsbD 1 else m.getLsbD 5
    kbdOut := s.kbdOut ++ framedBytes .mod s
      (changedBitEvents s.prevMods m 0 s.cfg.lctrlSc ++ changedBitEvents s.prevMods m 1 s.cfg.shiftSc ++
       changedBitEvents s.prevMods m 2 s.cfg.laltSc ++ changedBitEvents s.prevMods m 4 s.cfg.rctrlSc ++
       changedBitEvents s.prevMods m 5 s.cfg.shiftSc ++ changedBitEvents s.prevMods m 6 s.cfg.raltSc) }

/-- 41_modifiers.md section 2 (R131): after a MODS PrevMods is its mask, and a second MODS with the same mask emits
nothing and changes nothing. -/
def Obligations.SecondEqualMaskChangesNothing : Prop :=
  ∀ (s : State) (m : Byte), ∃ t, exec (.mods m) s = .next t ∧ t.prevMods = m ∧ exec (.mods m) t = .next t

/-- 41_modifiers.md section 3 (R133, R137): a change of a single Ctrl or Alt bit emits that modifier's own scancode, a
press when the bit became 1 and a release when it became 0, and writes nothing beyond PrevMods. -/
def Obligations.SingleCtrlOrAltChange : Prop :=
  ∀ (s : State) (i : Nat) (sc : Byte),
    (i, sc) ∈ [(0, s.cfg.lctrlSc), (4, s.cfg.rctrlSc), (2, s.cfg.laltSc), (6, s.cfg.raltSc)] →
    exec (.mods (s.prevMods ^^^ (1#8 <<< i))) s = .next { s with
      prevMods := s.prevMods ^^^ (1#8 <<< i)
      kbdOut := s.kbdOut ++ framedBytes .mod s [⟨sc, if s.prevMods.getLsbD i then .release else .press⟩] }

/-- 41_modifiers.md section 3 (R136): a change of the Right-GUI bit alone emits nothing and writes nothing but
PrevMods. -/
def Obligations.RightGuiWritesOnlyPrevMods : Prop :=
  ∀ s : State, exec (.mods (s.prevMods ^^^ 0x80#8)) s = .next { s with prevMods := s.prevMods ^^^ 0x80#8 }

/-- 41_modifiers.md section 3 (R135, a decision) and 90_conflicts.md C2: from the invariant, writing the new Left-GUI
bit is toggling AltLayerState on each change of it, and the change emits nothing of its own. -/
def Obligations.LeftGuiTogglesTheAltLayer : Prop :=
  ∀ s : State, ModifierConsistent s →
    exec (.mods (s.prevMods ^^^ 0x08#8)) s = .next { s with
      prevMods := s.prevMods ^^^ 0x08#8, altLayerState := !s.altLayerState }

/-- 41_modifiers.md section 4 (R139, which the spec derives): every step keeps AltLayerState equal to the Left-GUI bit
of PrevMods and, under or_of_bits, ShiftState equal to the OR of its Shift bits. -/
def Obligations.StepKeepsModifierInvariant : Prop :=
  ∀ s s' : State, ModifierConsistent s → step s = .next s' → ModifierConsistent s'

/-- 41_modifiers.md section 4 (R139): the invariant holds after reset under every configuration. -/
def Obligations.ResetMeetsModifierInvariant : Prop :=
  ModifierConsistent State.reset ∧ ∀ c : Cfg, ModifierConsistent (State.resetWith c)

/-- 41_modifiers.md section 4 (R140, which the spec derives): a report gives one event for each changed bit other than
bits 3 and 7. -/
def Obligations.ModsEventCount : Prop :=
  ∀ (c : Cfg) (q m : Byte), (modifierEvents c q m).length =
    ([0, 1, 2, 4, 5, 6].filter fun i => m.getLsbD i != q.getLsbD i).length

/-- 41_modifiers.md section 4 (R138, a decision): while the keyboard is disabled MODS writes the same registers as
while it is enabled; its bytes are dropped under all_keyboard_output and sent under key_events_only. -/
def Obligations.DisabledKeyboardStillTracksModifiers : Prop :=
  ∀ (s : State) (m : Byte), s.keyboardEnabled = false →
    ∃ t u, exec (.mods m) s = .next t ∧ exec (.mods m) { s with keyboardEnabled := true } = .next u ∧
      t.prevMods = u.prevMods ∧ t.shiftState = u.shiftState ∧ t.altLayerState = u.altLayerState ∧
      (s.cfg.kbdGateScope = .allKeyboardOutput → t.kbdOut = s.kbdOut) ∧
      (s.cfg.kbdGateScope = .keyEventsOnly → t.kbdOut = u.kbdOut)

/-- 70_reset_and_hazards.md section 1 (R232, which the spec derives): the first MODS after reset emits a press for
every non-GUI bit set in its mask and sets ShiftState and AltLayerState from the mask. -/
def Obligations.FirstModsAfterResetReportsHeldModifiers : Prop :=
  ∀ (c : Cfg) (m : Byte), ∃ t, exec (.mods m) (State.resetWith c) = .next t ∧
    t.shiftState = (m.getLsbD 1 || m.getLsbD 5) ∧ t.altLayerState = m.getLsbD 3 ∧
    t.kbdOut = framedBytes .mod (State.resetWith c)
      (([(0, c.lctrlSc), (1, c.shiftSc), (2, c.laltSc), (4, c.rctrlSc), (5, c.shiftSc), (6, c.raltSc)].filter
        fun x => m.getLsbD x.1).map fun x => ⟨x.2, .press⟩)

/-- 70_reset_and_hazards.md section 3 (R241, which the spec derives from R134): left Shift down, right Shift down,
right Shift up sends press, press, release, and under or_of_bits ShiftState stays set. -/
def Obligations.TwoShiftKeysLeaveHostUnshifted : Prop :=
  ∀ s : State, CfgWellFormed s.cfg → s.cfg.shiftStatePolicy = .orOfBits → s.keyboardEnabled = true →
    s.cfg.shiftSc ≠ 0x00#8 → s.prevMods = 0x00#8 →
    ∃ t, runFrom s [.mods 0x02#8, .mods 0x22#8, .mods 0x02#8] = .next t ∧ t.shiftState = true ∧
      t.kbdOut = s.kbdOut ++ [s.cfg.shiftSc &&& 0x7F#8, s.cfg.shiftSc &&& 0x7F#8, s.cfg.shiftSc ||| 0x80#8]

/-! MOVE and BUTTON. -/

/-- 42_mouse_accumulator.md section 1 (R150; ACC16_MODE is a parameter the spec decides): a MOVE inside the interface
adds each quotient, rounded toward zero, to its accumulator, by ACC16_MODE, and changes nothing else. -/
def Obligations.MoveAccumulatesQuotients : Prop :=
  ∀ (s : State) (dx dy : Int), 1 ≤ s.cfg.mouseDivider →
    s.cfg.mouseDeltaMin ≤ dx → dx ≤ s.cfg.mouseDeltaMax → s.cfg.mouseDeltaMin ≤ dy → dy ≤ s.cfg.mouseDeltaMax →
    ∃ x y : Word16, exec (.move dx dy) s = .next { s with accDX := x, accDY := y } ∧
      (s.cfg.acc16Mode = .wrap →
        x = s.accDX + BitVec.ofInt 16 (dx.tdiv s.cfg.mouseDivider) ∧
        y = s.accDY + BitVec.ofInt 16 (dy.tdiv s.cfg.mouseDivider)) ∧
      (s.cfg.acc16Mode = .saturate →
        x.toInt = min 32767 (max (-32768) (s.accDX.toInt + dx.tdiv s.cfg.mouseDivider)) ∧
        y.toInt = min 32767 (max (-32768) (s.accDY.toInt + dy.tdiv s.cfg.mouseDivider)))

/-- 42_mouse_accumulator.md section 1 (R151, a decision for the wrap mode): over a run of MOVEs the accumulators gain
the sum of the quotients, not the quotient of the sum. -/
def Obligations.AccumulatorHoldsSumOfQuotients : Prop :=
  ∀ (s : State) (ds : List (Int × Int)), CfgWellFormed s.cfg → s.cfg.acc16Mode = .wrap →
    (∀ d ∈ ds, transactionValid s.cfg (.move d.1 d.2) = true) →
    ∃ t, runFrom s (ds.map fun d => .move d.1 d.2) = .next t ∧
      t.accDX = s.accDX + BitVec.ofInt 16 (quotientSum s.cfg.mouseDivider (ds.map Prod.fst)) ∧
      t.accDY = s.accDY + BitVec.ofInt 16 (quotientSum s.cfg.mouseDivider (ds.map Prod.snd))

/-- 60_exceptions.md section 1 (R203, a decision): a MOVE with a delta outside the interface is refused. -/
def Obligations.MoveOutsideRangeIsRefused : Prop :=
  ∀ (s : State) (dx dy : Int),
    dx < s.cfg.mouseDeltaMin ∨ s.cfg.mouseDeltaMax < dx ∨ dy < s.cfg.mouseDeltaMin ∨ s.cfg.mouseDeltaMax < dy →
    exec (.move dx dy) s = .refused .moveOutsideRange

/-- 42_mouse_accumulator.md section 2 (R153, R154; that any other button is a no-op is R155, the spec's decision D19,
log entry 5): BUTTON sets the named button's bit, any other button writes nothing, and nothing else changes. -/
def Obligations.ButtonTransaction : Prop :=
  ∀ (s : State) (down : Bool),
    exec (.button .left down) s = .next { s with btnL := down } ∧
    exec (.button .right down) s = .next { s with btnR := down } ∧
    exec (.button .other down) s = .next s

/-! HOST and the mouse frame. -/

/-- 43_host_commands.md sections 1 and 2 (R170; which bytes LastByte takes is a decision): the whole HOST transaction,
for every byte. -/
def Obligations.HostTransaction : Prop :=
  ∀ (b : Byte) (s : State), exec (decode (.host b)) s = .next
    (if b = 0x40#8 ∧ s.lastByte = 0x41#8 then
      { s with lastByte := b, accDX := 0, accDY := 0, mouseOut := s.mouseOut ++ packet s }
    else if b = 0x48#8 then { s with lastByte := b, keyboardEnabled := false }
    else if b = 0x49#8 then { s with lastByte := b, keyboardEnabled := true }
    else { s with lastByte := b })

/-- R174, R175, R178, R181, R184: the arm byte, the other specials, the reserved, LED and other 0xF_ bytes have no
effect other than on LastByte. -/
def Obligations.IgnoredHostBytesStoreOnlyLastByte : Prop :=
  ∀ (s : State) (lo : Nibble),
    exec .hostTriggerArm s = .next { s with lastByte := 0x41#8 } ∧
    exec (.hostSpecialIgnored lo) s = .next { s with lastByte := 0x4#4 ++ lo } ∧
    exec (.hostReserved5x lo) s = .next { s with lastByte := 0x5#4 ++ lo } ∧
    exec (.hostLedStatus lo) s = .next { s with lastByte := 0x8#4 ++ lo } ∧
    exec (.hostOtherFxIgnored lo) s = .next { s with lastByte := 0xF#4 ++ lo }

/-- 43_host_commands.md sections 3 to 5 (R179, R180, R182, R183, R185, decisions): the repeat, hello, goodbye and
unlisted bytes have no effect other than on LastByte. -/
def Obligations.RepeatHelloAndUnlistedBytesStoreOnlyLastByte : Prop :=
  ∀ (s : State) (lo : Nibble) (b : Byte),
    exec (.hostRepeatDelay lo) s = .next { s with lastByte := 0x6#4 ++ lo } ∧
    exec (.hostRepeatInterval lo) s = .next { s with lastByte := 0x7#4 ++ lo } ∧
    exec .hostHello s = .next { s with lastByte := 0xFD#8 } ∧
    exec .hostGoodbye s = .next { s with lastByte := 0xFF#8 } ∧
    exec (.hostUnrecognized b) s = .next { s with lastByte := b }

/-- R176, R177: 0x48 clears and 0x49 sets KeyboardEnabled, each is idempotent, nothing dropped is replayed, and after
0x48 no key event puts a byte on the keyboard channel, nor any modifier event under all_keyboard_output. -/
def Obligations.KeyboardDisableAndEnable : Prop :=
  ∀ s : State,
    (∃ t, exec .hostKbdDisable s = .next t ∧ t = { s with keyboardEnabled := false, lastByte := 0x48#8 } ∧
      exec .hostKbdDisable t = .next t ∧ (∀ es, framedBytes .key t es = []) ∧
      (s.cfg.kbdGateScope = .allKeyboardOutput → ∀ es, framedBytes .mod t es = [])) ∧
    (∃ t, exec .hostKbdEnable s = .next t ∧ t = { s with keyboardEnabled := true, lastByte := 0x49#8 } ∧
      exec .hostKbdEnable t = .next t)

/-- R173, R192: 0x40 directly after 0x41 appends the packet and clears the accumulators, leaving the buttons; any
other 0x40 is ignored; either way LastByte becomes 0x40. -/
def Obligations.TriggerEmitsFrameOnlyAfterArm : Prop :=
  ∀ s : State,
    (s.lastByte = 0x41#8 → exec .hostMsctrlTrigger s = .next
      { s with lastByte := 0x40#8, accDX := 0, accDY := 0, mouseOut := s.mouseOut ++ packet s }) ∧
    (s.lastByte ≠ 0x41#8 → exec .hostMsctrlTrigger s = .next { s with lastByte := 0x40#8 })

/-- R75, R190: the packet is byte 0 with its four flags and two buttons, then the low bytes of AccDX and AccDY; bits 3
and 2 are 0, and at most one of the two flags of an axis is set. -/
def Obligations.PacketLayout : Prop :=
  ∀ s : State, ∃ b0 : Byte,
    packet s = [b0, s.accDX.extractLsb' 0 8, s.accDY.extractLsb' 0 8] ∧
    (b0.getLsbD 7 = true ↔ s.accDY.toInt < -128) ∧ (b0.getLsbD 6 = true ↔ 127 < s.accDY.toInt) ∧
    (b0.getLsbD 5 = true ↔ s.accDX.toInt < -128) ∧ (b0.getLsbD 4 = true ↔ 127 < s.accDX.toInt) ∧
    b0.getLsbD 3 = false ∧ b0.getLsbD 2 = false ∧ b0.getLsbD 1 = s.btnR ∧ b0.getLsbD 0 = s.btnL ∧
    (b0.getLsbD 7 && b0.getLsbD 6) = false ∧ (b0.getLsbD 5 && b0.getLsbD 4) = false

/-- 43_host_commands.md section 6 (R191): an accumulated value in -128..127 is sent exactly with no flag of its axis;
outside that range it is sent modulo 256 with a flag of its axis set. -/
def Obligations.PacketSendsMotionExactlyOrFlagsIt : Prop :=
  ∀ s : State, ∃ b0 b1 b2 : Byte, packet s = [b0, b1, b2] ∧
    (b1.toInt - s.accDX.toInt) % 256 = 0 ∧ (b2.toInt - s.accDY.toInt) % 256 = 0 ∧
    (if -128 ≤ s.accDX.toInt ∧ s.accDX.toInt ≤ 127 then
      b1.toInt = s.accDX.toInt ∧ b0.getLsbD 5 = false ∧ b0.getLsbD 4 = false
      else (b0.getLsbD 5 || b0.getLsbD 4) = true) ∧
    (if -128 ≤ s.accDY.toInt ∧ s.accDY.toInt ≤ 127 then
      b2.toInt = s.accDY.toInt ∧ b0.getLsbD 7 = false ∧ b0.getLsbD 6 = false
      else (b0.getLsbD 7 || b0.getLsbD 6) = true)

/-- R193: the source's worked example: dx 300, dy -5, left button down gives 0x11, 0x2C, 0xFB. -/
def Obligations.SourceFrameExample : Prop :=
  ∀ s : State, s.lastByte = 0x41#8 → s.accDX = BitVec.ofInt 16 300 → s.accDY = BitVec.ofInt 16 (-5) →
    s.btnL = true → s.btnR = false →
    exec .hostMsctrlTrigger s = .next
      { s with
        lastByte := 0x40#8, accDX := 0, accDY := 0, mouseOut := s.mouseOut ++ [0x11#8, 0x2C#8, 0xFB#8] }

/-- 43_host_commands.md section 1 (R171, a decision): a host byte between 0x41 and 0x40 cancels the frame unless it is
0x41, and USB-side transactions between the two bytes do not. -/
def Obligations.FrameNeedsAdjacentHostBytes : Prop :=
  ∀ (s : State) (b : Byte) (us : List Transaction), CfgWellFormed s.cfg →
    (∀ u ∈ us, u.source = .usb ∧ transactionValid s.cfg u = true) →
    (∃ t p, runFrom s (.host 0x41#8 :: us ++ [.host 0x40#8]) = .next t ∧ p.length = 3 ∧
      t.mouseOut = s.mouseOut ++ p) ∧
    (b ≠ 0x41#8 → b ≠ 0x40#8 → ∃ t, runFrom s (.host 0x41#8 :: us ++ [.host b, .host 0x40#8]) = .next t ∧
      t.mouseOut = s.mouseOut)

/-- 30_encoding.md section 5 (R86, a decision): POLL emits one frame from every state of a well-formed configuration.
-/
def Obligations.PollEmitsOneFrame : Prop :=
  ∀ s : State, CfgWellFormed s.cfg →
    runFrom s (expandPseudo .poll) = .next { s with
      lastByte := 0x40#8, accDX := 0, accDY := 0, mouseOut := s.mouseOut ++ packet s, pending := [] }

/-! Reset and whole runs. -/

/-- 70_reset_and_hazards.md section 1 (R230, decisions): the reset state. The configuration of `State.reset` is the
model's choice (log entries 2 and 3) and is well-formed. -/
def Obligations.ResetState : Prop :=
  (∀ c : Cfg, State.resetWith c =
    { cfg := c, shiftState := false, altLayerState := false, prevMods := 0x00#8,
      keyboardEnabled := c.kbdEnabledAtReset, lastByte := 0x00#8, accDX := 0, accDY := 0, btnL := false,
      btnR := false, kbdOut := [], mouseOut := [], pending := [] }) ∧
  State.reset = State.resetWith referenceCfg ∧ CfgWellFormed referenceCfg

/-- 20_memory.md section 4 and 60_exceptions.md section 4: the mouse channel and the mouse registers after a run do
not depend on the KEY and MODS transactions in it. -/
def Obligations.MouseChannelIgnoresKeyboardInputs : Prop :=
  ∀ s : State, Admissible s → ∃ t u, runInputs s = .next t ∧ runInputs (s.keepInputs mouseInput) = .next u ∧
    t.mouseOut = u.mouseOut ∧ t.accDX = u.accDX ∧ t.accDY = u.accDY ∧ t.btnL = u.btnL ∧ t.btnR = u.btnR ∧
    t.lastByte = u.lastByte

/-- 20_memory.md section 4 and 60_exceptions.md section 4: the keyboard channel and the modifier registers after a run
depend only on its KEY and MODS transactions and its host bytes 0x48 and 0x49. -/
def Obligations.KeyboardChannelIgnoresMouseInputs : Prop :=
  ∀ s : State, Admissible s → ∃ t u, runInputs s = .next t ∧ runInputs (s.keepInputs keyboardInput) = .next u ∧
    t.kbdOut = u.kbdOut ∧ t.shiftState = u.shiftState ∧ t.altLayerState = u.altLayerState ∧
    t.prevMods = u.prevMods ∧ t.keyboardEnabled = u.keyboardEnabled

/-- 10_state.md section 1 (R24) and 70_reset_and_hazards.md section 3 (R242): under all_keyboard_output a disabled
keyboard sends nothing, whatever arrives, until a byte 0x49 does. -/
def Obligations.DisabledKeyboardStaysSilent : Prop :=
  ∀ s : State, Admissible s → s.keyboardEnabled = false → s.cfg.kbdGateScope = .allKeyboardOutput →
    Transaction.host 0x49#8 ∉ s.pending →
    ∃ t, runInputs s = .next t ∧ t.kbdOut = s.kbdOut ∧ t.keyboardEnabled = false
end

