-- ==== Sys2Proof/Laws/State.lean ====
section
/-! SUPPORT. What each update of State does to each field: the named field takes the new value, every other field is
as before. -/

namespace Sys2Proof.Machine

section setShiftState
variable (s : State) (v : Bool)
@[simp] theorem State.setShiftState_cfg : (s.setShiftState v).cfg = s.cfg := rfl
@[simp] theorem State.setShiftState_shiftState : (s.setShiftState v).shiftState = v := rfl
@[simp] theorem State.setShiftState_altLayerState : (s.setShiftState v).altLayerState = s.altLayerState := rfl
@[simp] theorem State.setShiftState_prevMods : (s.setShiftState v).prevMods = s.prevMods := rfl
@[simp] theorem State.setShiftState_keyboardEnabled : (s.setShiftState v).keyboardEnabled = s.keyboardEnabled := rfl
@[simp] theorem State.setShiftState_lastByte : (s.setShiftState v).lastByte = s.lastByte := rfl
@[simp] theorem State.setShiftState_accDX : (s.setShiftState v).accDX = s.accDX := rfl
@[simp] theorem State.setShiftState_accDY : (s.setShiftState v).accDY = s.accDY := rfl
@[simp] theorem State.setShiftState_btnL : (s.setShiftState v).btnL = s.btnL := rfl
@[simp] theorem State.setShiftState_btnR : (s.setShiftState v).btnR = s.btnR := rfl
@[simp] theorem State.setShiftState_kbdOut : (s.setShiftState v).kbdOut = s.kbdOut := rfl
@[simp] theorem State.setShiftState_mouseOut : (s.setShiftState v).mouseOut = s.mouseOut := rfl
@[simp] theorem State.setShiftState_pending : (s.setShiftState v).pending = s.pending := rfl
end setShiftState

section setAltLayerState
variable (s : State) (v : Bool)
@[simp] theorem State.setAltLayerState_cfg : (s.setAltLayerState v).cfg = s.cfg := rfl
@[simp] theorem State.setAltLayerState_shiftState : (s.setAltLayerState v).shiftState = s.shiftState := rfl
@[simp] theorem State.setAltLayerState_altLayerState : (s.setAltLayerState v).altLayerState = v := rfl
@[simp] theorem State.setAltLayerState_prevMods : (s.setAltLayerState v).prevMods = s.prevMods := rfl
@[simp] theorem State.setAltLayerState_keyboardEnabled : (s.setAltLayerState v).keyboardEnabled = s.keyboardEnabled := rfl
@[simp] theorem State.setAltLayerState_lastByte : (s.setAltLayerState v).lastByte = s.lastByte := rfl
@[simp] theorem State.setAltLayerState_accDX : (s.setAltLayerState v).accDX = s.accDX := rfl
@[simp] theorem State.setAltLayerState_accDY : (s.setAltLayerState v).accDY = s.accDY := rfl
@[simp] theorem State.setAltLayerState_btnL : (s.setAltLayerState v).btnL = s.btnL := rfl
@[simp] theorem State.setAltLayerState_btnR : (s.setAltLayerState v).btnR = s.btnR := rfl
@[simp] theorem State.setAltLayerState_kbdOut : (s.setAltLayerState v).kbdOut = s.kbdOut := rfl
@[simp] theorem State.setAltLayerState_mouseOut : (s.setAltLayerState v).mouseOut = s.mouseOut := rfl
@[simp] theorem State.setAltLayerState_pending : (s.setAltLayerState v).pending = s.pending := rfl
end setAltLayerState

section setPrevMods
variable (s : State) (v : Byte)
@[simp] theorem State.setPrevMods_cfg : (s.setPrevMods v).cfg = s.cfg := rfl
@[simp] theorem State.setPrevMods_shiftState : (s.setPrevMods v).shiftState = s.shiftState := rfl
@[simp] theorem State.setPrevMods_altLayerState : (s.setPrevMods v).altLayerState = s.altLayerState := rfl
@[simp] theorem State.setPrevMods_prevMods : (s.setPrevMods v).prevMods = v := rfl
@[simp] theorem State.setPrevMods_keyboardEnabled : (s.setPrevMods v).keyboardEnabled = s.keyboardEnabled := rfl
@[simp] theorem State.setPrevMods_lastByte : (s.setPrevMods v).lastByte = s.lastByte := rfl
@[simp] theorem State.setPrevMods_accDX : (s.setPrevMods v).accDX = s.accDX := rfl
@[simp] theorem State.setPrevMods_accDY : (s.setPrevMods v).accDY = s.accDY := rfl
@[simp] theorem State.setPrevMods_btnL : (s.setPrevMods v).btnL = s.btnL := rfl
@[simp] theorem State.setPrevMods_btnR : (s.setPrevMods v).btnR = s.btnR := rfl
@[simp] theorem State.setPrevMods_kbdOut : (s.setPrevMods v).kbdOut = s.kbdOut := rfl
@[simp] theorem State.setPrevMods_mouseOut : (s.setPrevMods v).mouseOut = s.mouseOut := rfl
@[simp] theorem State.setPrevMods_pending : (s.setPrevMods v).pending = s.pending := rfl
end setPrevMods

section setKeyboardEnabled
variable (s : State) (v : Bool)
@[simp] theorem State.setKeyboardEnabled_cfg : (s.setKeyboardEnabled v).cfg = s.cfg := rfl
@[simp] theorem State.setKeyboardEnabled_shiftState : (s.setKeyboardEnabled v).shiftState = s.shiftState := rfl
@[simp] theorem State.setKeyboardEnabled_altLayerState : (s.setKeyboardEnabled v).altLayerState = s.altLayerState := rfl
@[simp] theorem State.setKeyboardEnabled_prevMods : (s.setKeyboardEnabled v).prevMods = s.prevMods := rfl
@[simp] theorem State.setKeyboardEnabled_keyboardEnabled : (s.setKeyboardEnabled v).keyboardEnabled = v := rfl
@[simp] theorem State.setKeyboardEnabled_lastByte : (s.setKeyboardEnabled v).lastByte = s.lastByte := rfl
@[simp] theorem State.setKeyboardEnabled_accDX : (s.setKeyboardEnabled v).accDX = s.accDX := rfl
@[simp] theorem State.setKeyboardEnabled_accDY : (s.setKeyboardEnabled v).accDY = s.accDY := rfl
@[simp] theorem State.setKeyboardEnabled_btnL : (s.setKeyboardEnabled v).btnL = s.btnL := rfl
@[simp] theorem State.setKeyboardEnabled_btnR : (s.setKeyboardEnabled v).btnR = s.btnR := rfl
@[simp] theorem State.setKeyboardEnabled_kbdOut : (s.setKeyboardEnabled v).kbdOut = s.kbdOut := rfl
@[simp] theorem State.setKeyboardEnabled_mouseOut : (s.setKeyboardEnabled v).mouseOut = s.mouseOut := rfl
@[simp] theorem State.setKeyboardEnabled_pending : (s.setKeyboardEnabled v).pending = s.pending := rfl
end setKeyboardEnabled

section setLastByte
variable (s : State) (v : Byte)
@[simp] theorem State.setLastByte_cfg : (s.setLastByte v).cfg = s.cfg := rfl
@[simp] theorem State.setLastByte_shiftState : (s.setLastByte v).shiftState = s.shiftState := rfl
@[simp] theorem State.setLastByte_altLayerState : (s.setLastByte v).altLayerState = s.altLayerState := rfl
@[simp] theorem State.setLastByte_prevMods : (s.setLastByte v).prevMods = s.prevMods := rfl
@[simp] theorem State.setLastByte_keyboardEnabled : (s.setLastByte v).keyboardEnabled = s.keyboardEnabled := rfl
@[simp] theorem State.setLastByte_lastByte : (s.setLastByte v).lastByte = v := rfl
@[simp] theorem State.setLastByte_accDX : (s.setLastByte v).accDX = s.accDX := rfl
@[simp] theorem State.setLastByte_accDY : (s.setLastByte v).accDY = s.accDY := rfl
@[simp] theorem State.setLastByte_btnL : (s.setLastByte v).btnL = s.btnL := rfl
@[simp] theorem State.setLastByte_btnR : (s.setLastByte v).btnR = s.btnR := rfl
@[simp] theorem State.setLastByte_kbdOut : (s.setLastByte v).kbdOut = s.kbdOut := rfl
@[simp] theorem State.setLastByte_mouseOut : (s.setLastByte v).mouseOut = s.mouseOut := rfl
@[simp] theorem State.setLastByte_pending : (s.setLastByte v).pending = s.pending := rfl
end setLastByte

section setAccDX
variable (s : State) (v : Word16)
@[simp] theorem State.setAccDX_cfg : (s.setAccDX v).cfg = s.cfg := rfl
@[simp] theorem State.setAccDX_shiftState : (s.setAccDX v).shiftState = s.shiftState := rfl
@[simp] theorem State.setAccDX_altLayerState : (s.setAccDX v).altLayerState = s.altLayerState := rfl
@[simp] theorem State.setAccDX_prevMods : (s.setAccDX v).prevMods = s.prevMods := rfl
@[simp] theorem State.setAccDX_keyboardEnabled : (s.setAccDX v).keyboardEnabled = s.keyboardEnabled := rfl
@[simp] theorem State.setAccDX_lastByte : (s.setAccDX v).lastByte = s.lastByte := rfl
@[simp] theorem State.setAccDX_accDX : (s.setAccDX v).accDX = v := rfl
@[simp] theorem State.setAccDX_accDY : (s.setAccDX v).accDY = s.accDY := rfl
@[simp] theorem State.setAccDX_btnL : (s.setAccDX v).btnL = s.btnL := rfl
@[simp] theorem State.setAccDX_btnR : (s.setAccDX v).btnR = s.btnR := rfl
@[simp] theorem State.setAccDX_kbdOut : (s.setAccDX v).kbdOut = s.kbdOut := rfl
@[simp] theorem State.setAccDX_mouseOut : (s.setAccDX v).mouseOut = s.mouseOut := rfl
@[simp] theorem State.setAccDX_pending : (s.setAccDX v).pending = s.pending := rfl
end setAccDX

section setAccDY
variable (s : State) (v : Word16)
@[simp] theorem State.setAccDY_cfg : (s.setAccDY v).cfg = s.cfg := rfl
@[simp] theorem State.setAccDY_shiftState : (s.setAccDY v).shiftState = s.shiftState := rfl
@[simp] theorem State.setAccDY_altLayerState : (s.setAccDY v).altLayerState = s.altLayerState := rfl
@[simp] theorem State.setAccDY_prevMods : (s.setAccDY v).prevMods = s.prevMods := rfl
@[simp] theorem State.setAccDY_keyboardEnabled : (s.setAccDY v).keyboardEnabled = s.keyboardEnabled := rfl
@[simp] theorem State.setAccDY_lastByte : (s.setAccDY v).lastByte = s.lastByte := rfl
@[simp] theorem State.setAccDY_accDX : (s.setAccDY v).accDX = s.accDX := rfl
@[simp] theorem State.setAccDY_accDY : (s.setAccDY v).accDY = v := rfl
@[simp] theorem State.setAccDY_btnL : (s.setAccDY v).btnL = s.btnL := rfl
@[simp] theorem State.setAccDY_btnR : (s.setAccDY v).btnR = s.btnR := rfl
@[simp] theorem State.setAccDY_kbdOut : (s.setAccDY v).kbdOut = s.kbdOut := rfl
@[simp] theorem State.setAccDY_mouseOut : (s.setAccDY v).mouseOut = s.mouseOut := rfl
@[simp] theorem State.setAccDY_pending : (s.setAccDY v).pending = s.pending := rfl
end setAccDY

section setBtnL
variable (s : State) (v : Bool)
@[simp] theorem State.setBtnL_cfg : (s.setBtnL v).cfg = s.cfg := rfl
@[simp] theorem State.setBtnL_shiftState : (s.setBtnL v).shiftState = s.shiftState := rfl
@[simp] theorem State.setBtnL_altLayerState : (s.setBtnL v).altLayerState = s.altLayerState := rfl
@[simp] theorem State.setBtnL_prevMods : (s.setBtnL v).prevMods = s.prevMods := rfl
@[simp] theorem State.setBtnL_keyboardEnabled : (s.setBtnL v).keyboardEnabled = s.keyboardEnabled := rfl
@[simp] theorem State.setBtnL_lastByte : (s.setBtnL v).lastByte = s.lastByte := rfl
@[simp] theorem State.setBtnL_accDX : (s.setBtnL v).accDX = s.accDX := rfl
@[simp] theorem State.setBtnL_accDY : (s.setBtnL v).accDY = s.accDY := rfl
@[simp] theorem State.setBtnL_btnL : (s.setBtnL v).btnL = v := rfl
@[simp] theorem State.setBtnL_btnR : (s.setBtnL v).btnR = s.btnR := rfl
@[simp] theorem State.setBtnL_kbdOut : (s.setBtnL v).kbdOut = s.kbdOut := rfl
@[simp] theorem State.setBtnL_mouseOut : (s.setBtnL v).mouseOut = s.mouseOut := rfl
@[simp] theorem State.setBtnL_pending : (s.setBtnL v).pending = s.pending := rfl
end setBtnL

section setBtnR
variable (s : State) (v : Bool)
@[simp] theorem State.setBtnR_cfg : (s.setBtnR v).cfg = s.cfg := rfl
@[simp] theorem State.setBtnR_shiftState : (s.setBtnR v).shiftState = s.shiftState := rfl
@[simp] theorem State.setBtnR_altLayerState : (s.setBtnR v).altLayerState = s.altLayerState := rfl
@[simp] theorem State.setBtnR_prevMods : (s.setBtnR v).prevMods = s.prevMods := rfl
@[simp] theorem State.setBtnR_keyboardEnabled : (s.setBtnR v).keyboardEnabled = s.keyboardEnabled := rfl
@[simp] theorem State.setBtnR_lastByte : (s.setBtnR v).lastByte = s.lastByte := rfl
@[simp] theorem State.setBtnR_accDX : (s.setBtnR v).accDX = s.accDX := rfl
@[simp] theorem State.setBtnR_accDY : (s.setBtnR v).accDY = s.accDY := rfl
@[simp] theorem State.setBtnR_btnL : (s.setBtnR v).btnL = s.btnL := rfl
@[simp] theorem State.setBtnR_btnR : (s.setBtnR v).btnR = v := rfl
@[simp] theorem State.setBtnR_kbdOut : (s.setBtnR v).kbdOut = s.kbdOut := rfl
@[simp] theorem State.setBtnR_mouseOut : (s.setBtnR v).mouseOut = s.mouseOut := rfl
@[simp] theorem State.setBtnR_pending : (s.setBtnR v).pending = s.pending := rfl
end setBtnR

section setPending
variable (s : State) (v : List Transaction)
@[simp] theorem State.setPending_cfg : (s.setPending v).cfg = s.cfg := rfl
@[simp] theorem State.setPending_shiftState : (s.setPending v).shiftState = s.shiftState := rfl
@[simp] theorem State.setPending_altLayerState : (s.setPending v).altLayerState = s.altLayerState := rfl
@[simp] theorem State.setPending_prevMods : (s.setPending v).prevMods = s.prevMods := rfl
@[simp] theorem State.setPending_keyboardEnabled : (s.setPending v).keyboardEnabled = s.keyboardEnabled := rfl
@[simp] theorem State.setPending_lastByte : (s.setPending v).lastByte = s.lastByte := rfl
@[simp] theorem State.setPending_accDX : (s.setPending v).accDX = s.accDX := rfl
@[simp] theorem State.setPending_accDY : (s.setPending v).accDY = s.accDY := rfl
@[simp] theorem State.setPending_btnL : (s.setPending v).btnL = s.btnL := rfl
@[simp] theorem State.setPending_btnR : (s.setPending v).btnR = s.btnR := rfl
@[simp] theorem State.setPending_kbdOut : (s.setPending v).kbdOut = s.kbdOut := rfl
@[simp] theorem State.setPending_mouseOut : (s.setPending v).mouseOut = s.mouseOut := rfl
@[simp] theorem State.setPending_pending : (s.setPending v).pending = v := rfl
end setPending

section appendKbd
variable (s : State) (b : Byte)
@[simp] theorem State.appendKbd_cfg : (s.appendKbd b).cfg = s.cfg := rfl
@[simp] theorem State.appendKbd_shiftState : (s.appendKbd b).shiftState = s.shiftState := rfl
@[simp] theorem State.appendKbd_altLayerState : (s.appendKbd b).altLayerState = s.altLayerState := rfl
@[simp] theorem State.appendKbd_prevMods : (s.appendKbd b).prevMods = s.prevMods := rfl
@[simp] theorem State.appendKbd_keyboardEnabled : (s.appendKbd b).keyboardEnabled = s.keyboardEnabled := rfl
@[simp] theorem State.appendKbd_lastByte : (s.appendKbd b).lastByte = s.lastByte := rfl
@[simp] theorem State.appendKbd_accDX : (s.appendKbd b).accDX = s.accDX := rfl
@[simp] theorem State.appendKbd_accDY : (s.appendKbd b).accDY = s.accDY := rfl
@[simp] theorem State.appendKbd_btnL : (s.appendKbd b).btnL = s.btnL := rfl
@[simp] theorem State.appendKbd_btnR : (s.appendKbd b).btnR = s.btnR := rfl
@[simp] theorem State.appendKbd_kbdOut : (s.appendKbd b).kbdOut = s.kbdOut ++ [b] := rfl
@[simp] theorem State.appendKbd_mouseOut : (s.appendKbd b).mouseOut = s.mouseOut := rfl
@[simp] theorem State.appendKbd_pending : (s.appendKbd b).pending = s.pending := rfl
end appendKbd

section appendMouse
variable (s : State) (b : Byte)
@[simp] theorem State.appendMouse_cfg : (s.appendMouse b).cfg = s.cfg := rfl
@[simp] theorem State.appendMouse_shiftState : (s.appendMouse b).shiftState = s.shiftState := rfl
@[simp] theorem State.appendMouse_altLayerState : (s.appendMouse b).altLayerState = s.altLayerState := rfl
@[simp] theorem State.appendMouse_prevMods : (s.appendMouse b).prevMods = s.prevMods := rfl
@[simp] theorem State.appendMouse_keyboardEnabled : (s.appendMouse b).keyboardEnabled = s.keyboardEnabled := rfl
@[simp] theorem State.appendMouse_lastByte : (s.appendMouse b).lastByte = s.lastByte := rfl
@[simp] theorem State.appendMouse_accDX : (s.appendMouse b).accDX = s.accDX := rfl
@[simp] theorem State.appendMouse_accDY : (s.appendMouse b).accDY = s.accDY := rfl
@[simp] theorem State.appendMouse_btnL : (s.appendMouse b).btnL = s.btnL := rfl
@[simp] theorem State.appendMouse_btnR : (s.appendMouse b).btnR = s.btnR := rfl
@[simp] theorem State.appendMouse_kbdOut : (s.appendMouse b).kbdOut = s.kbdOut := rfl
@[simp] theorem State.appendMouse_mouseOut : (s.appendMouse b).mouseOut = s.mouseOut ++ [b] := rfl
@[simp] theorem State.appendMouse_pending : (s.appendMouse b).pending = s.pending := rfl
end appendMouse

end Sys2Proof.Machine
end

