-- ==== Sys2Proof/Laws/Ops.lean ====
section
/-! SUPPORT. One lemma for each shared operation that says everything it does: the keyboard frame generator, the mouse
frame, the table search, the integer primitives, and the taking of a transaction. -/

namespace Sys2Proof.Machine

/-! The keyboard channel. -/

/-- An emitted event appends its framed byte, if any, and changes nothing else. -/
theorem emit_eq (o : Origin) (s : State) (e : Event) :
    emit o s e = { s with kbdOut := s.kbdOut ++ (frame s.cfg s.keyboardEnabled o e).toList } := by
  unfold emit
  cases frame s.cfg s.keyboardEnabled o e <;> simp [State.appendKbd]

@[simp] theorem framedBytes_nil (o : Origin) (s : State) : framedBytes o s [] = [] := rfl

/-- Events are framed one by one, in order. -/
theorem framedBytes_cons (o : Origin) (s : State) (e : Event) (es : List Event) :
    framedBytes o s (e :: es) = (frame s.cfg s.keyboardEnabled o e).toList ++ framedBytes o s es := by
  unfold framedBytes
  cases h : frame s.cfg s.keyboardEnabled o e <;> simp [h]

theorem framedBytes_append (o : Origin) (s : State) (xs ys : List Event) :
    framedBytes o s (xs ++ ys) = framedBytes o s xs ++ framedBytes o s ys := by
  simp [framedBytes]

/-- The framed bytes depend on the configuration and the gate alone. -/
theorem framedBytes_congr {s t : State} (hc : t.cfg = s.cfg) (he : t.keyboardEnabled = s.keyboardEnabled)
    (o : Origin) (es : List Event) : framedBytes o t es = framedBytes o s es := by
  simp [framedBytes, hc, he]

/-- A sequence of events appends its framed bytes and changes nothing else. -/
theorem emitAll_eq (o : Origin) (s : State) (es : List Event) :
    emitAll o s es = { s with kbdOut := s.kbdOut ++ framedBytes o s es } := by
  induction es generalizing s with
  | nil => simp [emitAll]
  | cons e es ih =>
    have hstep : emitAll o s (e :: es) = emitAll o (emit o s e) es := rfl
    rw [hstep, ih, framedBytes_congr (s := s) (by simp [emit_eq]) (by simp [emit_eq]), framedBytes_cons]
    simp [emit_eq, List.append_assoc]

/-- With the gate shut nothing is framed (R55). -/
theorem framedBytes_gate_shut {o : Origin} {s : State} (h : gateOpen s.cfg s.keyboardEnabled o = false)
    (es : List Event) : framedBytes o s es = [] := by
  simp [framedBytes, frame, h]

/-! The mouse channel. -/

/-- A frame appends the packet and clears both accumulators (R192). -/
theorem frameEmit_eq (s : State) :
    frameEmit s = { s with accDX := 0, accDY := 0, mouseOut := s.mouseOut ++ packet s } := by
  simp [frameEmit, packet, State.setAccDX, State.setAccDY, State.appendMouse]

@[simp] theorem packet_length (s : State) : (packet s).length = 3 := rfl

/-- The negative flag of an axis (R190). -/
theorem overflowNegative_iff (acc : Word16) : overflowNegative acc = true ↔ acc.toInt < -128 := by
  unfold overflowNegative sext16
  exact decide_eq_true_iff

/-- The positive flag of an axis (R190). -/
theorem overflowPositive_iff (acc : Word16) : overflowPositive acc = true ↔ 127 < acc.toInt := by
  unfold overflowPositive sext16
  exact decide_eq_true_iff

/-- Every bit of packet byte 0 (R75). -/
theorem packetByte0_bits (x y : Word16) (right left : Bool) :
    (packetByte0 x y right left).getLsbD 7 = overflowNegative y ∧
    (packetByte0 x y right left).getLsbD 6 = overflowPositive y ∧
    (packetByte0 x y right left).getLsbD 5 = overflowNegative x ∧
    (packetByte0 x y right left).getLsbD 4 = overflowPositive x ∧
    (packetByte0 x y right left).getLsbD 3 = false ∧ (packetByte0 x y right left).getLsbD 2 = false ∧
    (packetByte0 x y right left).getLsbD 1 = right ∧ (packetByte0 x y right left).getLsbD 0 = left := by
  unfold packetByte0
  generalize overflowNegative y = a
  generalize overflowPositive y = b
  generalize overflowNegative x = c
  generalize overflowPositive x = d
  revert a b c d right left
  decide

/-! The search of a pair list (R51). -/

/-- A found value stands beside its key in the list. -/
theorem mem_of_lookup {l : List (Byte × Byte)} {k v : Byte} (h : lookup l k = some v) : (k, v) ∈ l := by
  induction l with
  | nil => simp [lookup] at h
  | cons p rest ih =>
    obtain ⟨key, value⟩ := p
    unfold lookup at h
    split at h
    · rename_i hk
      cases h
      simp [hk]
    · exact List.mem_cons_of_mem _ (ih h)

/-! The integer primitives (R8). -/

/-- The spec's division is the library's truncating one. -/
theorem tdiv_eq_tdiv (a : Int) (d : Nat) : tdiv a d = a.tdiv d := by
  unfold tdiv
  rcases Int.lt_trichotomy a 0 with h | h | h
  · obtain ⟨n, rfl⟩ : ∃ n : Nat, a = -(n : Int) := ⟨a.natAbs, by omega⟩
    rw [Int.sign_eq_neg_one_of_neg h]
    simp
  · simp [h]
  · obtain ⟨n, rfl⟩ : ∃ n : Nat, a = (n : Int) := ⟨a.natAbs, by omega⟩
    rw [Int.sign_eq_one_of_pos h]
    simp

/-- `wrap16` is in range and congruent to its argument. -/
theorem wrap16_spec (v : Int) : -32768 ≤ wrap16 v ∧ wrap16 v ≤ 32767 ∧ (wrap16 v - v) % 65536 = 0 := by
  unfold wrap16
  omega

/-- `sat16` is in range, and is its argument when that is. -/
theorem sat16_spec (v : Int) :
    -32768 ≤ sat16 v ∧ sat16 v ≤ 32767 ∧ (-32768 ≤ v → v ≤ 32767 → sat16 v = v) := by
  unfold sat16
  omega

/-- An accumulator holds exactly what `add16` gives. -/
theorem sext16_accumulate (mode : AccMode) (acc : Word16) (q : Int) :
    sext16 (accumulate mode acc q) = add16 mode (sext16 acc) q := by
  unfold accumulate sext16
  rw [BitVec.toInt_ofInt]
  have h : -32768 ≤ add16 mode acc.toInt q ∧ add16 mode acc.toInt q ≤ 32767 := by
    cases mode
    · exact ⟨(wrap16_spec _).1, (wrap16_spec _).2.1⟩
    · exact ⟨(sat16_spec _).1, (sat16_spec _).2.1⟩
  apply Int.bmod_eq_of_le <;> omega

/-! The delivered transactions. -/

/-- Taking a transaction takes the oldest one and leaves the rest of the state as it is. -/
theorem takeTransaction_eq_some {s r : State} {t : Transaction} (h : takeTransaction s = some (t, r)) :
    ∃ rest, s.pending = t :: rest ∧ r = { s with pending := rest } := by
  unfold takeTransaction at h
  split at h
  · cases h
  · rename_i t' rest hp
    cases h
    exact ⟨rest, hp, rfl⟩

theorem takeTransaction_cons {s : State} {t : Transaction} {rest : List Transaction} (h : s.pending = t :: rest) :
    takeTransaction s = some (t, { s with pending := rest }) := by
  simp [takeTransaction, h, State.setPending]

theorem takeTransaction_nil {s : State} (h : s.pending = []) : takeTransaction s = none := by
  simp [takeTransaction, h]

end Sys2Proof.Machine
end

