-- ==== Sys2Proof/Laws/PerInstr.lean ====
section
/-! SUPPORT. TableRow: a well-formed HOST instruction is encoded as a byte of a row of the opcode table that bears its
mnemonic (30_encoding.md R71); a USB-side instruction is encoded as a record and has no HOST mnemonic (R80). -/

namespace Sys2Proof.Laws

/-- The instruction's encoding stands in the opcode table under the instruction's own mnemonic. -/
def TableRow.Statement (i : Instr) : Prop :=
  i.wellFormed = true →
    match encode i, i.hostClass with
    | .host b, some c => ∃ r ∈ hostRows, r.cls = c ∧ r.holds b = true
    | .host _, none => False
    | _, some _ => False
    | _, none => True

/-- The bytes of the class `0x4_` without a row of their own fall in its four rows (R175). -/
theorem specialLow_rows : ∀ lo : Nibble, specialLow lo = true →
    byteOf 0x4#4 lo &&& 0xFE#8 = 0x42#8 ∨ byteOf 0x4#4 lo &&& 0xFC#8 = 0x44#8 ∨
      byteOf 0x4#4 lo &&& 0xFE#8 = 0x4A#8 ∨ byteOf 0x4#4 lo &&& 0xFC#8 = 0x4C#8 := by decide

/-- The bytes of the class `0xF_` other than hello and goodbye fall in its four rows (R184). -/
theorem otherFxLow_rows : ∀ lo : Nibble, otherFxLow lo = true →
    byteOf 0xF#4 lo &&& 0xF8#8 = 0xF0#8 ∨ byteOf 0xF#4 lo &&& 0xFC#8 = 0xF8#8 ∨
      byteOf 0xF#4 lo &&& 0xFF#8 = 0xFC#8 ∨ byteOf 0xF#4 lo &&& 0xFF#8 = 0xFE#8 := by decide

/-- A byte with high nibble `hi` is in the row of that nibble (R70, R71). -/
theorem byteOf_and_hi (hi lo : Nibble) : byteOf hi lo &&& 0xF0#8 = byteOf hi 0x0#4 := by
  revert hi lo; decide

/-- The unlisted bytes fall in the five rows of the mnemonic (R185). -/
theorem unrecognizedByte_rows : ∀ b : Byte, unrecognizedByte b = true →
    b &&& 0xC0#8 = 0x00#8 ∨ b &&& 0xF0#8 = 0x90#8 ∨ b &&& 0xE0#8 = 0xA0#8 ∨ b &&& 0xE0#8 = 0xC0#8 ∨
      b &&& 0xF0#8 = 0xE0#8 := by decide

theorem TableRow.hostMsctrlTrigger : TableRow.Statement .hostMsctrlTrigger :=
  fun _ => ⟨⟨.msctrlTrigger, 0x40#8, 0xFF#8⟩, by simp [hostRows], rfl, rfl⟩
theorem TableRow.hostTriggerArm : TableRow.Statement .hostTriggerArm :=
  fun _ => ⟨⟨.triggerArm, 0x41#8, 0xFF#8⟩, by simp [hostRows], rfl, rfl⟩
theorem TableRow.hostSpecialIgnored (lo : Nibble) : TableRow.Statement (.hostSpecialIgnored lo) := by
  intro h
  simp only [encode, Instr.hostClass]
  rcases specialLow_rows lo h with h | h | h | h
  · exact ⟨⟨.specialIgnored, 0x42#8, 0xFE#8⟩, by simp [hostRows], rfl, by simp [HostRow.holds, h]⟩
  · exact ⟨⟨.specialIgnored, 0x44#8, 0xFC#8⟩, by simp [hostRows], rfl, by simp [HostRow.holds, h]⟩
  · exact ⟨⟨.specialIgnored, 0x4A#8, 0xFE#8⟩, by simp [hostRows], rfl, by simp [HostRow.holds, h]⟩
  · exact ⟨⟨.specialIgnored, 0x4C#8, 0xFC#8⟩, by simp [hostRows], rfl, by simp [HostRow.holds, h]⟩
theorem TableRow.hostKbdDisable : TableRow.Statement .hostKbdDisable :=
  fun _ => ⟨⟨.kbdDisable, 0x48#8, 0xFF#8⟩, by simp [hostRows], rfl, rfl⟩
theorem TableRow.hostKbdEnable : TableRow.Statement .hostKbdEnable :=
  fun _ => ⟨⟨.kbdEnable, 0x49#8, 0xFF#8⟩, by simp [hostRows], rfl, rfl⟩
theorem TableRow.hostReserved5x (lo : Nibble) : TableRow.Statement (.hostReserved5x lo) :=
  fun _ => ⟨⟨.reserved5x, 0x50#8, 0xF0#8⟩, by simp [hostRows], rfl, by
    simp only [HostRow.holds, byteOf_and_hi]; rfl⟩
theorem TableRow.hostRepeatDelay (lo : Nibble) : TableRow.Statement (.hostRepeatDelay lo) :=
  fun _ => ⟨⟨.repeatDelay, 0x60#8, 0xF0#8⟩, by simp [hostRows], rfl, by
    simp only [HostRow.holds, byteOf_and_hi]; rfl⟩
theorem TableRow.hostRepeatInterval (lo : Nibble) : TableRow.Statement (.hostRepeatInterval lo) :=
  fun _ => ⟨⟨.repeatInterval, 0x70#8, 0xF0#8⟩, by simp [hostRows], rfl, by
    simp only [HostRow.holds, byteOf_and_hi]; rfl⟩
theorem TableRow.hostLedStatus (lo : Nibble) : TableRow.Statement (.hostLedStatus lo) :=
  fun _ => ⟨⟨.ledStatus, 0x80#8, 0xF0#8⟩, by simp [hostRows], rfl, by
    simp only [HostRow.holds, byteOf_and_hi]; rfl⟩
theorem TableRow.hostOtherFxIgnored (lo : Nibble) : TableRow.Statement (.hostOtherFxIgnored lo) := by
  intro h
  simp only [encode, Instr.hostClass]
  rcases otherFxLow_rows lo h with h | h | h | h
  · exact ⟨⟨.otherFxIgnored, 0xF0#8, 0xF8#8⟩, by simp [hostRows], rfl, by simp [HostRow.holds, h]⟩
  · exact ⟨⟨.otherFxIgnored, 0xF8#8, 0xFC#8⟩, by simp [hostRows], rfl, by simp [HostRow.holds, h]⟩
  · exact ⟨⟨.otherFxIgnored, 0xFC#8, 0xFF#8⟩, by simp [hostRows], rfl, by simp only [HostRow.holds, h]; rfl⟩
  · exact ⟨⟨.otherFxIgnored, 0xFE#8, 0xFF#8⟩, by simp [hostRows], rfl, by simp only [HostRow.holds, h]; rfl⟩
theorem TableRow.hostHello : TableRow.Statement .hostHello :=
  fun _ => ⟨⟨.hello, 0xFD#8, 0xFF#8⟩, by simp [hostRows], rfl, rfl⟩
theorem TableRow.hostGoodbye : TableRow.Statement .hostGoodbye :=
  fun _ => ⟨⟨.goodbye, 0xFF#8, 0xFF#8⟩, by simp [hostRows], rfl, rfl⟩
theorem TableRow.hostUnrecognized (b : Byte) : TableRow.Statement (.hostUnrecognized b) := by
  intro h
  simp only [encode, Instr.hostClass]
  rcases unrecognizedByte_rows b h with h | h | h | h | h
  · exact ⟨⟨.unrecognized, 0x00#8, 0xC0#8⟩, by simp [hostRows], rfl, by simp [HostRow.holds, h]⟩
  · exact ⟨⟨.unrecognized, 0x90#8, 0xF0#8⟩, by simp [hostRows], rfl, by simp [HostRow.holds, h]⟩
  · exact ⟨⟨.unrecognized, 0xA0#8, 0xE0#8⟩, by simp [hostRows], rfl, by simp [HostRow.holds, h]⟩
  · exact ⟨⟨.unrecognized, 0xC0#8, 0xE0#8⟩, by simp [hostRows], rfl, by simp [HostRow.holds, h]⟩
  · exact ⟨⟨.unrecognized, 0xE0#8, 0xF0#8⟩, by simp [hostRows], rfl, by simp [HostRow.holds, h]⟩
theorem TableRow.key (k : Byte) (p : EventType) : TableRow.Statement (.key k p) := fun _ => trivial
theorem TableRow.mods (mask : Byte) : TableRow.Statement (.mods mask) := fun _ => trivial
theorem TableRow.move (dx dy : Int) : TableRow.Statement (.move dx dy) := fun _ => trivial
theorem TableRow.button (which : Button) (down : Bool) : TableRow.Statement (.button which down) := fun _ => trivial

end Sys2Proof.Laws
end

