-- ==== Sys2Proof/Laws/Step.lean ====
section
/-! SUPPORT. What a step can do, said once, and what a well-formed configuration guarantees its reads. -/

namespace Sys2Proof.Machine

/-- A step that answers a next state found a well-formed configuration, and either nothing was delivered and nothing
changed, or it performed the oldest transaction. -/
theorem step_eq_next {s s' : State} (h : step s = .next s') :
    CfgWellFormed s.cfg ∧ ((s.pending = [] ∧ s' = s) ∨
      ∃ t rest, s.pending = t :: rest ∧ exec (decode t) { s with pending := rest } = .next s') := by
  unfold step at h
  split at h
  · cases h
  · rename_i hc
    refine ⟨hc, ?_⟩
    split at h
    · rename_i hp
      cases h
      refine .inl ⟨?_, rfl⟩
      cases hq : s.pending with
      | nil => rfl
      | cons t rest => simp [takeTransaction, hq] at hp
    · rename_i t r hp
      obtain ⟨rest, hq, rfl⟩ := takeTransaction_eq_some hp
      exact .inr ⟨t, rest, hq, h⟩

/-- A nonempty list does not check itself: R31 (b) bounds both arrays by TABLE_LEN. -/
theorem arrays_of_wellFormed {c : Cfg} (h : CfgWellFormed c) :
    c.scancodeTable.length = c.tableLen ∧ c.shiftOverrideTable.length = c.tableLen ∧ 1 ≤ c.mouseDivider := by
  unfold CfgWellFormed configCheck at h
  split at h <;> [cases h; skip]
  split at h <;> [cases h; skip]
  rename_i hb
  split at h <;> [cases h; skip]
  split at h <;> [cases h; skip]
  rename_i hd
  simp [arrayLengthOk] at hb
  simp [dividerOk] at hd
  exact ⟨hb.1, hb.2, hd⟩

/-- Inside the domain every table read of a well-formed configuration answers a byte (R50). -/
theorem tableRead_of_lt {table : List Byte} {k : Byte} (h : k.toNat < table.length) :
    tableRead table k = some table[k.toNat] := by
  simp [tableRead, h]

/-- Under a well-formed configuration the Remapper always has an answer: no read is outside its table (R50, R102). -/
theorem remap_total {c : Cfg} (h : CfgWellFormed c) (alt shift : Bool) (k : Byte) (p : EventType) :
    ∃ es, remap c alt shift k p = some es := by
  obtain ⟨hs, ho, -⟩ := arrays_of_wellFormed h
  unfold remap
  split
  · exact ⟨_, rfl⟩
  · split
    · exact ⟨_, rfl⟩
    · rename_i hk
      have hplain : ∃ es, plainEvents c k p = some es := by
        simp [plainEvents, tableRead_of_lt (show k.toNat < c.scancodeTable.length by omega)]
      split
      · unfold shiftedEvents
        split
        · exact ⟨_, rfl⟩
        · unfold overrideEvents
          rw [tableRead_of_lt (show k.toNat < c.shiftOverrideTable.length by omega)]
          dsimp only
          split
          · exact ⟨_, rfl⟩
          · exact hplain
      · unfold unshiftedEvents
        split
        · exact ⟨_, rfl⟩
        · exact hplain

/-- KEY with an answer from the Remapper appends the framed events and changes nothing else. -/
theorem execKey_of_remap {s : State} {k : Byte} {p : EventType} {es : List Event}
    (h : remap s.cfg s.altLayerState s.shiftState k p = some es) :
    execKey k p s = .next { s with kbdOut := s.kbdOut ++ framedBytes .key s es } := by
  simp [execKey, h, emitAll_eq]

/-- MODS as one record update. -/
theorem execMods_eq (m : Byte) (s : State) :
    execMods m s = .next { s with
      prevMods := m, altLayerState := nextAltLayerState s m, shiftState := nextShiftState s m,
      kbdOut := s.kbdOut ++ framedBytes .mod s (modifierEvents s.cfg s.prevMods m) } := by
  simp [execMods, emitAll_eq, State.setAltLayerState, State.setShiftState, State.setPrevMods]

/-- MOVE inside the interface with a divider adds the motion. -/
theorem execMove_of_valid {s : State} {dx dy : Int} (hv : transactionValid s.cfg (.move dx dy) = true)
    (hd : 1 ≤ s.cfg.mouseDivider) : execMove dx dy s = .next (addMotion dx dy s) := by
  simp only [transactionValid] at hv
  have hd' : dividerOk s.cfg = true := by simp [dividerOk]; omega
  simp [execMove, hv, hd']

end Sys2Proof.Machine
end

