-- ==== Sys2Proof/Laws/Run.lean ====
section
/-! SUPPORT. Runs over the delivered transactions, one transaction at a time. -/

namespace Sys2Proof.Machine

@[simp] theorem runFrom_nil (s : State) : runFrom s [] = .next (s.setPending []) := rfl

/-- A run of the delivered transactions is a run from the same state with them given. -/
theorem runInputs_eq_runFrom {s : State} {ts : List Transaction} (h : s.pending = ts) :
    runInputs s = runFrom s ts := by
  subst h
  rfl

/-- A run whose first step answers a state goes on from it. -/
theorem runInputs_of_step {s s' : State} {t : Transaction} {rest : List Transaction} (hp : s.pending = t :: rest)
    (h : step s = .next s') (hp' : s'.pending = rest) : runInputs s = runInputs s' := by
  have h' : Sys2Proof.core.step s = .next s' := h
  unfold runInputs
  rw [hp, hp', List.length_cons]
  simp only [Host.Core.run, h']
  rfl

/-- A run performs its first transaction and goes on with the others. -/
theorem runFrom_cons {s s' : State} {t : Transaction} {ts : List Transaction} (hc : CfgWellFormed s.cfg)
    (h : exec (decode t) (s.setPending ts) = .next s') (hp : s'.pending = ts) :
    runFrom s (t :: ts) = runFrom s' ts := by
  rw [← runInputs_eq_runFrom hp]
  refine runInputs_of_step (t := t) (rest := ts) rfl ?_ hp
  rw [step]
  simp only [State.setPending_cfg]
  rw [hc, takeTransaction_cons rfl]
  exact h

end Sys2Proof.Machine
end

