-- ==== Sys2Proof/Tests/Slice0.lean ====
section
/-! SUPPORT. The model's own tests: ill-formed terms, words written out from the encodings, single steps with the
results the spec's vectors give (95_test_vectors.md; the vector's id is named), and for each statement with hypotheses a
state and operands that meet them. -/

namespace Sys2Proof.Tests

open Sys2Proof Sys2Proof.Machine

/-! The spec's test configuration FX (95_test_vectors.md section 1). -/

def fxScancode : Nat → Byte
  | 0x04 => 0x1E#8
  | 0x05 => 0x2E#8
  | 0x1E => 0x02#8
  | 0x1F => 0x03#8
  | 0x28 => 0x1D#8
  | 0x2C => 0x35#8
  | 0x2D => 0x0C#8
  | 0x2E => 0x0D#8
  | 0x34 => 0x28#8
  | 0x3A => 0x63#8
  | _ => 0x00#8

def fxOverride (k : Nat) : Byte := if k = 0x34 then 0x03#8 else 0x00#8

def fx : Cfg where
  tableLen := 0x69
  scancodeTable := (List.range 0x69).map fxScancode
  shiftOverrideTable := (List.range 0x69).map fxOverride
  forceShiftList := [(0x2E#8, 0x0C#8)]
  forceUnshiftList := [(0x1F#8, 0x1B#8)]
  altKeyTable := [(0x3A#8, 0x5A#8), (0x04#8, 0x55#8), (0x70#8, 0x5B#8)]
  shiftSc := 0x70#8
  lctrlSc := 0x71#8
  rctrlSc := 0x71#8
  laltSc := 0x72#8
  raltSc := 0x73#8
  mouseDivider := 2
  mouseDeltaMin := -128
  mouseDeltaMax := 127
  acc16Mode := .wrap
  shiftStatePolicy := .orOfBits
  zeroScancodeEmits := false
  kbdGateScope := .allKeyboardOutput
  kbdEnabledAtReset := true
  autoRepeat := false
  rejectDuplicateKeys := false

/-- The reset state under FX. -/
def fxState : State := State.resetWith fx

/-- FX with `ACC16_MODE = saturate`. -/
def fxS : Cfg := { fx with acc16Mode := .saturate }

/-- FX with `SHIFT_STATE_POLICY = last_edge`. -/
def fxE : Cfg := { fx with shiftStatePolicy := .lastEdge }

/-- FX with `KBD_GATE_SCOPE = key_events_only`. -/
def fxG : Cfg := { fx with kbdGateScope := .keyEventsOnly }

/-- FX with a zero Shift scancode. -/
def fxZeroShift : Cfg := { fx with shiftSc := 0x00#8 }

/-- The state an outcome answers. -/
def after : Host.Outcome State Fault Refusal → Option State
  | .next s => some s
  | .fault _ => none
  | .refused _ => none

/-- The refusal an outcome answers. -/
def refusal : Host.Outcome State Fault Refusal → Option Refusal
  | .next _ => none
  | .fault _ => none
  | .refused r => some r

def kbdOf (o : Host.Outcome State Fault Refusal) : Option (List Byte) := (after o).map State.kbdOut
def mouseOf (o : Host.Outcome State Fault Refusal) : Option (List Byte) := (after o).map State.mouseOut
def modifiersOf (o : Host.Outcome State Fault Refusal) : Option (Bool × Bool × Byte) :=
  (after o).map fun s => (s.shiftState, s.altLayerState, s.prevMods)
def hostOf (o : Host.Outcome State Fault Refusal) : Option (Byte × Bool) :=
  (after o).map fun s => (s.lastByte, s.keyboardEnabled)
def accOf (o : Host.Outcome State Fault Refusal) : Option (Int × Int) :=
  (after o).map fun s => (s.accDX.toInt, s.accDY.toInt)
def buttonsOf (o : Host.Outcome State Fault Refusal) : Option (Bool × Bool) := (after o).map fun s => (s.btnL, s.btnR)

/-! Ill-formed terms are refused. -/

theorem test_wf_special_refuses_0x48 : (Instr.hostSpecialIgnored 0x8#4).wellFormed = false := by decide
theorem test_wf_otherFx_refuses_0xFD : (Instr.hostOtherFxIgnored 0xD#4).wellFormed = false := by decide
theorem test_wf_unrecognized_refuses_0x40 : (Instr.hostUnrecognized 0x40#8).wellFormed = false := by decide
theorem test_wf_unrecognized_edges : (Instr.hostUnrecognized 0x3F#8).wellFormed = true ∧
    (Instr.hostUnrecognized 0x8F#8).wellFormed = false ∧ (Instr.hostUnrecognized 0xEF#8).wellFormed = true ∧
    (Instr.hostUnrecognized 0xF0#8).wellFormed = false := by decide

theorem test_config_fx : configCheck fx = none := by decide
theorem test_config_a : configCheck { fx with tableLen := 0 } = some .tableLength ∧
    configCheck { fx with tableLen := 257 } = some .tableLength := by decide
theorem test_config_b : configCheck { fx with tableLen := 0x68 } = some .arrayLength := by decide
theorem test_config_c : configCheck { fx with scancodeTable := fx.scancodeTable.set 0 0x01#8 } = some .indexZero := by
  decide
theorem test_config_d : configCheck { fx with mouseDivider := 0 } = some .divider := by decide
theorem test_config_e : configCheck { fx with autoRepeat := true } = some .autoRepeat := by decide
theorem test_config_f : configCheck { fx with mouseDeltaMin := 1 } = some .deltaRange ∧
    configCheck { fx with mouseDeltaMax := 32768 } = some .deltaRange := by decide
/-- FX+DUP passes, and is refused only when the model opts in (R31 (g)). -/
theorem test_config_g : configCheck { fx with forceShiftList := [(0x2E#8, 0x0C#8), (0x2E#8, 0x0D#8)] } = none ∧
    configCheck { fx with forceShiftList := [(0x2E#8, 0x0C#8), (0x2E#8, 0x0D#8)], rejectDuplicateKeys := true } =
      some .duplicateKeys := by decide

/-! Words written out from the command map (30_encoding.md R71). -/

theorem test_decode_class4 :
    decodeHostByte 0b01000000#8 = .hostMsctrlTrigger ∧ decodeHostByte 0b01000001#8 = .hostTriggerArm ∧
    decodeHostByte 0b01000010#8 = .hostSpecialIgnored 0b0010#4 ∧ decodeHostByte 0b01001000#8 = .hostKbdDisable ∧
    decodeHostByte 0b01001001#8 = .hostKbdEnable ∧ decodeHostByte 0b01001111#8 = .hostSpecialIgnored 0b1111#4 := by
  decide
theorem test_decode_classes5to8 :
    decodeHostByte 0b01010101#8 = .hostReserved5x 0b0101#4 ∧ decodeHostByte 0b01101010#8 = .hostRepeatDelay 0b1010#4 ∧
    decodeHostByte 0b01111111#8 = .hostRepeatInterval 0b1111#4 ∧
    decodeHostByte 0b10001111#8 = .hostLedStatus 0b1111#4 := by decide
theorem test_decode_classF :
    decodeHostByte 0b11110000#8 = .hostOtherFxIgnored 0b0000#4 ∧
    decodeHostByte 0b11111110#8 = .hostOtherFxIgnored 0b1110#4 ∧ decodeHostByte 0b11111101#8 = .hostHello ∧
    decodeHostByte 0b11111111#8 = .hostGoodbye := by decide
theorem test_decode_unlisted :
    decodeHostByte 0b00000000#8 = .hostUnrecognized 0b00000000#8 ∧
    decodeHostByte 0b00111111#8 = .hostUnrecognized 0b00111111#8 ∧
    decodeHostByte 0b10010000#8 = .hostUnrecognized 0b10010000#8 ∧
    decodeHostByte 0b11101111#8 = .hostUnrecognized 0b11101111#8 := by decide
theorem test_decode_records :
    decode (.key 0x04#8 .press) = .key 0x04#8 .press ∧ decode (.mods 0x02#8) = .mods 0x02#8 ∧
    decode (.move 7 (-7)) = .move 7 (-7) ∧ decode (.button .left true) = .button .left true := by decide
/-- A host command is exactly one byte (R70). -/
theorem test_decode_rejects_two_bytes : decodeTableWord 16 0x4041 = none ∧ decodeTableWord 0 0 = none := by decide
/-- The first step after reset runs the word placed for it. -/
theorem test_fetch_word_runs : hostOf (step (State.reset.withFetchWord 8 0x48)) = some (0x48#8, false) := by decide

/-! The integer primitives (00_scope.md R8). -/

theorem test_tdiv : tdiv 7 2 = 3 ∧ tdiv (-7) 2 = -3 ∧ tdiv (-1) 2 = 0 := by decide
theorem test_trunc8 : trunc8 300 = 0x2C#8 ∧ trunc8 (-5) = 0xFB#8 := by decide

/-! KEY. -/

/-- K8: a force-shift press. -/
theorem test_key_force_shift : kbdOf (exec (.key 0x2E#8 .press) fxState) = some [0x70#8, 0x0C#8, 0xF0#8] := by decide
/-- K19: the alt layer beats Shift. -/
theorem test_key_alt_layer : kbdOf (exec (.key 0x04#8 .release)
    { fxState with altLayerState := true, shiftState := true }) = some [0xD5#8] := by decide

/-! MODS. -/

/-- M12: all bits, in order 0 to 7. -/
theorem test_mods_order : kbdOf (exec (.mods 0xFF#8) fxState) =
    some [0x71#8, 0x70#8, 0x72#8, 0x71#8, 0x70#8, 0x73#8] := by decide
/-- M15, M16: one of two Shift keys released, under both policies. -/
theorem test_mods_policy :
    modifiersOf (exec (.mods 0x02#8) { fxState with prevMods := 0x22#8, shiftState := true }) =
      some (true, false, 0x02#8) ∧
    modifiersOf (exec (.mods 0x02#8) { fxState with cfg := fxE, prevMods := 0x22#8, shiftState := true }) =
      some (false, false, 0x02#8) := by decide

/-! MOVE and BUTTON. -/

/-- A1, A4, A7: truncation toward zero and wrapping. -/
theorem test_move : accOf (exec (.move 7 (-7)) fxState) = some (3, -3) ∧
    accOf (exec (.move 2 (-128)) { fxState with accDX := 0x7FFF#16, accDY := 0x8000#16 }) = some (-32768, 32704) := by
  decide
/-- A5, A15: saturation, and a delta outside the range. -/
theorem test_move_saturates_or_is_refused :
    accOf (exec (.move 2 0) { fxState with cfg := fxS, accDX := 0x7FFF#16 }) = some (32767, 0) ∧
    refusal (exec (.move 128 0) fxState) = some .moveOutsideRange := by decide
/-- A9, A11, A13. -/
theorem test_button : buttonsOf (exec (.button .left true) fxState) = some (true, false) ∧
    buttonsOf (exec (.button .right true) fxState) = some (false, true) ∧
    buttonsOf (exec (.button .other true) fxState) = some (false, false) := by decide

/-! HOST. -/

/-- F7: flags of both axes and both buttons. -/
theorem test_host_frame : mouseOf (exec .hostMsctrlTrigger { fxState with
    lastByte := 0x41#8, accDX := 255, accDY := BitVec.ofInt 16 (-255), btnL := true, btnR := true }) =
    some [0x93#8, 0xFF#8, 0x01#8] := by decide
/-- H1: no frame without 0x41 before it. -/
theorem test_host_trigger_unarmed : mouseOf (exec .hostMsctrlTrigger fxState) = some [] := by decide
/-- H3. -/
theorem test_host_arm : hostOf (exec .hostTriggerArm fxState) = some (0x41#8, true) := by decide
/-- H8. -/
theorem test_host_special : hostOf (exec (.hostSpecialIgnored 0x2#4) fxState) = some (0x42#8, true) := by decide
/-- H4. -/
theorem test_host_disable : hostOf (exec .hostKbdDisable fxState) = some (0x48#8, false) := by decide
/-- H6. -/
theorem test_host_enable : hostOf (exec .hostKbdEnable { fxState with keyboardEnabled := false }) =
    some (0x49#8, true) := by decide
/-- H9. -/
theorem test_host_reserved : hostOf (exec (.hostReserved5x 0x5#4) fxState) = some (0x55#8, true) := by decide
/-- H10, H11. -/
theorem test_host_repeat : hostOf (exec (.hostRepeatDelay 0xA#4) fxState) = some (0x6A#8, true) ∧
    hostOf (exec (.hostRepeatInterval 0xF#4) fxState) = some (0x7F#8, true) := by decide
/-- H12. -/
theorem test_host_led : hostOf (exec (.hostLedStatus 0xF#4) fxState) = some (0x8F#8, true) := by decide
/-- H13, H14: hello and goodbye reset no block state. -/
theorem test_host_hello_goodbye :
    hostOf (exec .hostHello { fxState with keyboardEnabled := false }) = some (0xFD#8, false) ∧
    hostOf (exec .hostGoodbye { fxState with keyboardEnabled := false }) = some (0xFF#8, false) := by decide
/-- H15, H17. -/
theorem test_host_others : hostOf (exec (.hostOtherFxIgnored 0xE#4) fxState) = some (0xFE#8, true) ∧
    hostOf (exec (.hostUnrecognized 0x9C#8) fxState) = some (0x9C#8, true) := by decide

/-! The script syntax (30_encoding.md R85, R86). -/

/-- The line `MOVE -3, 0x1 ;x`. -/
theorem test_parse_move : parseLine ['M', 'O', 'V', 'E', ' ', '-', '3', ',', ' ', '0', 'x', '1', ' ', ';', 'x'] =
    some [.plain (.move (-3) 1)] := by decide
/-- The line `TAP 0x2e`, and what it stands for. -/
theorem test_parse_tap : (parseLine ['T', 'A', 'P', ' ', '0', 'x', '2', 'e']).map expandScript =
    some [.key 0x2E#8 .press, .key 0x2E#8 .release] := by decide
/-- A blank line is no transaction; a byte operand of 256 is rejected. -/
theorem test_parse_blank_and_bad : parseLine [' ', ';', 'n'] = some [] ∧
    parseLine ['H', 'O', 'S', 'T', ' ', '2', '5', '6'] = none := by decide

/-! Witnesses: for each statement with hypotheses, a state and operands that meet them all. -/

theorem wit_DecodeInvertsEncode : (Instr.hostOtherFxIgnored 0xE#4).wellFormed = true ∧
    (Instr.hostUnrecognized 0xEF#8).wellFormed = true ∧ (Instr.hostSpecialIgnored 0x7#4).wellFormed = true := by decide

/-- A state with two inputs delivered. -/
def busy : State := { fxState with pending := [.host 0x48#8, .move 127 (-128)] }

theorem wit_StepPerformsOldestTransaction : CfgWellFormed busy.cfg ∧ Instr.hostKbdDisable.wellFormed = true ∧
    busy.pending = encode .hostKbdDisable :: [.move 127 (-128)] := by decide
theorem wit_StepWithoutInputChangesNothing : CfgWellFormed fxState.cfg ∧ fxState.pending = [] := by decide
theorem wit_IllFormedConfigIsRefused : configCheck ({ fxState with cfg := { fx with mouseDivider := 0 } } : State).cfg =
    some .divider := by decide
theorem wit_AdmissibleStepCompletes : Admissible busy ∧ busy.pending = .host 0x48#8 :: [.move 127 (-128)] := by decide
theorem wit_AdmissibleRunPerformsEveryInput : Admissible busy := by decide
/-- A step that answers a next state. -/
theorem wit_TablesAreImmutable : ∃ s', step busy = .next s' := ⟨_, rfl⟩
/-- A step that appends a byte. -/
theorem wit_OutputStreamsOnlyGrow : ∃ s', step { busy with pending := [.mods 0x02#8] } = .next s' ∧
    s'.kbdOut.length = 1 := ⟨_, rfl, by decide⟩

/-- Armed, with the trigger delivered. -/
def armed : State := { fxState with lastByte := 0x41#8, accDX := 3, pending := [.host 0x40#8] }

theorem wit_MouseStreamGrowsOnlyOnTrigger : armed.pending = [.host 0x40#8] ∧ armed.lastByte = 0x41#8 ∧
    mouseOf (step armed) = some [0x00#8, 0x03#8, 0x00#8] := by decide
theorem wit_OnlyTheListedInstructionsWriteARegister : ∃ t, exec (.mods 0x0A#8) fxState = .next t ∧
    t.shiftState ≠ fxState.shiftState ∧ t.altLayerState ≠ fxState.altLayerState := ⟨_, rfl, by decide, by decide⟩
theorem wit_EachSideLeavesTheOthersStateAlone_host : (Transaction.host 0x40#8).source = .host ∧
    accOf (step armed) = some (0, 0) := by decide
theorem wit_EachSideLeavesTheOthersStateAlone_usb : (Transaction.move 127 (-128)).source = .usb ∧
    accOf (step { fxState with pending := [.move 127 (-128)] }) = some (63, -64) := by decide
theorem wit_PollingAdmitsEveryInterleaving :
    ∀ p ∈ ([⟨[.key 0x04#8 .press, .mods 0x02#8], [0x41#8, 0x40#8]⟩] : List PollPass), p.wellFormed = true := by decide
theorem wit_LookupAnswersFirstMatch : lookup [(0x2E#8, 0x0C#8), (0x2E#8, 0x0D#8)] 0x2E#8 = some 0x0C#8 ∧
    lookup [(0x2E#8, 0x0C#8)] 0x2F#8 = none := by decide
theorem wit_FramedByteFields : (frameByte ⟨0x8A#8, .press⟩).getLsbD 7 = false ∧
    (frameByte ⟨0x0A#8, .release⟩).getLsbD 7 = true ∧ (frameByte ⟨0x40#8, .release⟩).getLsbD 6 = true := by decide

/-- K21: an alt entry for a key outside the domain. -/
theorem wit_KeyInAltLayer : ({ fxState with altLayerState := true } : State).altLayerState = true ∧
    lookup fx.altKeyTable 0x70#8 = some 0x5B#8 ∧ lookup fx.altKeyTable 0x05#8 = none := by decide
/-- K6: the first keycode outside the domain. -/
theorem wit_KeyOutsideDomainEmitsNothing : fxState.altLayerState = false ∧ fxState.cfg.tableLen ≤ (0x69#8).toNat := by
  decide
/-- FX with Shift held. -/
def shifted : State := { fxState with shiftState := true }

theorem wit_KeyForceUnshift : shifted.altLayerState = false ∧ (0x1F#8).toNat < shifted.cfg.tableLen ∧
    shifted.shiftState = true ∧ lookup shifted.cfg.forceUnshiftList 0x1F#8 = some 0x1B#8 := by decide
/-- K13 (an override) and the last keycode of the domain (none). -/
theorem wit_KeyShiftedOverrideOrPlain : CfgWellFormed shifted.cfg ∧ shifted.altLayerState = false ∧
    (0x68#8).toNat < shifted.cfg.tableLen ∧ shifted.shiftState = true ∧
    lookup shifted.cfg.forceUnshiftList 0x34#8 = none ∧ lookup shifted.cfg.forceUnshiftList 0x68#8 = none ∧
    shifted.cfg.shiftOverrideTable[(0x34#8).toNat]? = some 0x03#8 ∧
    shifted.cfg.scancodeTable[(0x34#8).toNat]? = some 0x28#8 ∧
    shifted.cfg.shiftOverrideTable[(0x68#8).toNat]? = some 0x00#8 ∧
    shifted.cfg.scancodeTable[(0x68#8).toNat]? = some 0x00#8 := by decide
theorem wit_KeyForceShift : fxState.altLayerState = false ∧ (0x2E#8).toNat < fxState.cfg.tableLen ∧
    fxState.shiftState = false ∧ lookup fxState.cfg.forceShiftList 0x2E#8 = some 0x0C#8 := by decide
theorem wit_KeyUnshiftedPlain : fxState.altLayerState = false ∧ (0x04#8).toNat < fxState.cfg.tableLen ∧
    fxState.shiftState = false ∧ lookup fxState.cfg.forceShiftList 0x04#8 = none ∧
    fxState.cfg.scancodeTable[(0x04#8).toNat]? = some 0x1E#8 := by decide
theorem wit_KeyCompletesAndWritesNoRegister : CfgWellFormed fxState.cfg := by decide
theorem wit_KeyEventCount : (remap fx true false 0x05#8 .press).map List.length = some 0 ∧
    (remap fx false false 0x69#8 .press).map List.length = some 0 ∧
    (remap fx false false 0x68#8 .press).map List.length = some 1 ∧
    (remap fx false true 0x1F#8 .press).map List.length = some 3 ∧
    (remap fx false false 0x2E#8 .press).map List.length = some 3 ∧
    (remap fx false false 0x2E#8 .release).map List.length = some 1 := by decide
theorem wit_KeyWhileDisabledChangesNothing : CfgWellFormed fx ∧
    ({ fxState with keyboardEnabled := false } : State).keyboardEnabled = false := by decide
theorem wit_ZeroShiftScancodeInForceShift : fxZeroShift.shiftSc = 0x00#8 ∧
    (State.resetWith fxZeroShift).altLayerState = false ∧ (0x2E#8).toNat < fxZeroShift.tableLen ∧
    (State.resetWith fxZeroShift).shiftState = false ∧ (State.resetWith fxZeroShift).keyboardEnabled = true ∧
    lookup fxZeroShift.forceShiftList 0x2E#8 = some 0x0C#8 ∧ (0x0C#8 : Byte) ≠ 0x00#8 := by decide
/-- The first example of R240. -/
theorem wit_ReleaseIsMappedUnderTheStateAtRelease : CfgWellFormed fxState.cfg ∧ fxState.keyboardEnabled = true ∧
    fxState.altLayerState = false ∧ fxState.shiftState = false ∧ fxState.prevMods = 0x00#8 ∧
    fxState.cfg.shiftSc ≠ 0x00#8 ∧ (0x0C#8 : Byte) ≠ 0x00#8 ∧ (0x0D#8 : Byte) ≠ 0x00#8 ∧
    (0x2E#8).toNat < fxState.cfg.tableLen ∧ lookup fxState.cfg.forceShiftList 0x2E#8 = some 0x0C#8 ∧
    lookup fxState.cfg.forceUnshiftList 0x2E#8 = none ∧
    fxState.cfg.shiftOverrideTable[(0x2E#8).toNat]? = some 0x00#8 ∧
    fxState.cfg.scancodeTable[(0x2E#8).toNat]? = some 0x0D#8 := by decide

theorem wit_SingleCtrlOrAltChange : ((6, fxState.cfg.raltSc) : Nat × Byte) ∈
    [(0, fxState.cfg.lctrlSc), (4, fxState.cfg.rctrlSc), (2, fxState.cfg.laltSc), (6, fxState.cfg.raltSc)] := by decide
/-- Also for StepKeepsModifierInvariant: a consistent state with a MODS delivered, whose step answers a state. -/
theorem wit_LeftGuiTogglesTheAltLayer : ModifierConsistent
    { fxState with
      prevMods := 0x0A#8, shiftState := true, altLayerState := true, pending := [.mods 0x02#8] } := by decide
theorem wit_StepKeepsModifierInvariant : ModifierConsistent { fxState with pending := [.mods 0x0A#8] } ∧
    modifiersOf (step { fxState with pending := [.mods 0x0A#8] }) = some (true, true, 0x0A#8) := by decide
/-- M18, M19: both gate scopes. -/
theorem wit_DisabledKeyboardStillTracksModifiers :
    ({ fxState with keyboardEnabled := false } : State).keyboardEnabled = false ∧
    fx.kbdGateScope = .allKeyboardOutput ∧ fxG.kbdGateScope = .keyEventsOnly := by decide
theorem wit_TwoShiftKeysLeaveHostUnshifted : CfgWellFormed fxState.cfg ∧ fxState.cfg.shiftStatePolicy = .orOfBits ∧
    fxState.keyboardEnabled = true ∧ fxState.cfg.shiftSc ≠ 0x00#8 ∧ fxState.prevMods = 0x00#8 := by decide

/-- Also for the last clause of KeyboardDisableAndEnable's first half. -/
theorem wit_KeyboardDisableAndEnable : fxState.cfg.kbdGateScope = .allKeyboardOutput := by decide
/-- Both ends of the range, and both modes. -/
theorem wit_MoveAccumulatesQuotients : 1 ≤ fx.mouseDivider ∧ fx.mouseDeltaMin ≤ -128 ∧ (-128 : Int) ≤ fx.mouseDeltaMax ∧
    fx.mouseDeltaMin ≤ 127 ∧ (127 : Int) ≤ fx.mouseDeltaMax ∧ fx.acc16Mode = .wrap ∧ fxS.acc16Mode = .saturate := by decide
theorem wit_AccumulatorHoldsSumOfQuotients : CfgWellFormed fx ∧ fx.acc16Mode = .wrap ∧
    ∀ d ∈ [((127, -128) : Int × Int), (-128, 127)], transactionValid fx (.move d.1 d.2) = true := by decide
theorem wit_MoveOutsideRangeIsRefused : (-129 : Int) < fx.mouseDeltaMin ∧ fx.mouseDeltaMax < (128 : Int) := by decide

theorem wit_TriggerEmitsFrameOnlyAfterArm : armed.lastByte = 0x41#8 ∧ fxState.lastByte ≠ 0x41#8 := by decide
/-- Each side of each bound of the packet (F2 to F6). -/
theorem wit_PacketSendsMotionExactlyOrFlagsIt :
    packet { fxState with accDX := 127, accDY := BitVec.ofInt 16 (-128) } = [0x00#8, 0x7F#8, 0x80#8] ∧
    packet { fxState with accDX := 128, accDY := BitVec.ofInt 16 (-129) } = [0x90#8, 0x80#8, 0x7F#8] ∧
    packet { fxState with accDX := BitVec.ofInt 16 (-129), accDY := 128 } = [0x60#8, 0x7F#8, 0x80#8] := by decide
theorem wit_PollEmitsOneFrame : CfgWellFormed fxState.cfg := by decide
theorem wit_SourceFrameExample : ∃ s : State, s.lastByte = 0x41#8 ∧ s.accDX = BitVec.ofInt 16 300 ∧
    s.accDY = BitVec.ofInt 16 (-5) ∧ s.btnL = true ∧ s.btnR = false :=
  ⟨{ armed with accDX := BitVec.ofInt 16 300, accDY := BitVec.ofInt 16 (-5), btnL := true }, by decide⟩
theorem wit_FrameNeedsAdjacentHostBytes : CfgWellFormed fxState.cfg ∧
    (∀ u ∈ [Transaction.move (-1) (-1), .key 0x04#8 .press],
      u.source = .usb ∧ transactionValid fxState.cfg u = true) ∧ (0x42#8 : Byte) ≠ 0x41#8 ∧ (0x42#8 : Byte) ≠ 0x40#8 := by
  decide
/-- Inputs of both channels, interleaved. -/
def mixed : State := { fxState with pending := [.key 0x04#8 .press, .move 4 4, .host 0x41#8, .mods 0x02#8, .host 0x40#8] }

theorem wit_MouseChannelIgnoresKeyboardInputs : Admissible mixed ∧ mixed.pending.filter mouseInput ≠ mixed.pending := by
  decide
theorem wit_KeyboardChannelIgnoresMouseInputs : Admissible mixed ∧
    mixed.pending.filter keyboardInput ≠ mixed.pending := by decide
theorem wit_DisabledKeyboardStaysSilent : Admissible { mixed with keyboardEnabled := false } ∧
    ({ mixed with keyboardEnabled := false } : State).keyboardEnabled = false ∧
    mixed.cfg.kbdGateScope = .allKeyboardOutput ∧ Transaction.host 0x49#8 ∉ mixed.pending := by decide

end Sys2Proof.Tests
end

section
/-! PROOFS. The tables (20_memory.md section 1): the search of a pair list as the library's search (R51), and the
configuration that no transaction writes (R52). -/

namespace Sys2Proof.Machine

/-! The search of a pair list (R51). -/

/-- The search is the library's `find?` on the keys, which carries the first-match theory. -/
theorem lookup_eq_map_find? (l : List (Byte × Byte)) (k : Byte) :
    lookup l k = (l.find? fun p => p.1 == k).map Prod.snd := by
  induction l with
  | nil => rfl
  | cons p rest ih =>
    obtain ⟨key, value⟩ := p
    by_cases hk : key = k
    · simp [lookup, hk]
    · simp [lookup, hk, ih]

theorem lookup_eq_none_iff {l : List (Byte × Byte)} {k : Byte} :
    lookup l k = none ↔ ∀ p ∈ l, p.1 ≠ k := by
  simp [lookup_eq_map_find?]

theorem lookup_eq_some_iff {l : List (Byte × Byte)} {k v : Byte} :
    lookup l k = some v ↔ ∃ before after, l = before ++ (k, v) :: after ∧ ∀ p ∈ before, p.1 ≠ k := by
  rw [lookup_eq_map_find?, Option.map_eq_some_iff]
  constructor
  · rintro ⟨⟨key, value⟩, hfind, rfl⟩
    obtain ⟨hkey, before, after, hl, hbefore⟩ := List.find?_eq_some_iff_append.mp hfind
    obtain rfl : key = k := by simpa using hkey
    exact ⟨before, after, hl, by simpa using hbefore⟩
  · rintro ⟨before, after, hl, hbefore⟩
    exact ⟨(k, v), List.find?_eq_some_iff_append.mpr ⟨by simp, before, after, hl, by simpa using hbefore⟩, rfl⟩

/-! What no instruction writes (R30, R52). -/

/-- KEY answers only where the Remapper does, and then appends the framed events and changes nothing else (R111). -/
theorem execKey_eq_next {k : Byte} {p : EventType} {s t : State} (h : execKey k p s = .next t) :
    ∃ es, remap s.cfg s.altLayerState s.shiftState k p = some es ∧
      t = { s with kbdOut := s.kbdOut ++ framedBytes .key s es } := by
  cases hr : remap s.cfg s.altLayerState s.shiftState k p with
  | none => simp [execKey, hr] at h
  | some es =>
    rw [execKey_of_remap hr] at h
    cases h
    exact ⟨es, rfl, rfl⟩

/-- MOVE answers only inside the interface and with a divider, and then adds the motion (R150, R203). -/
theorem execMove_eq_next {dx dy : Int} {s t : State} (h : execMove dx dy s = .next t) :
    transactionValid s.cfg (.move dx dy) = true ∧ dividerOk s.cfg = true ∧ t = addMotion dx dy s := by
  unfold execMove at h
  split at h
  · cases h
  · rename_i hrange
    split at h
    · cases h
    · rename_i hdivider
      cases h
      exact ⟨by simpa [transactionValid] using hrange, by simpa using hdivider, rfl⟩

/-- An instruction writes neither the configuration nor the delivered inputs. -/
theorem exec_keeps_cfg_and_pending {i : Instr} {s t : State} (h : exec i s = .next t) :
    t.cfg = s.cfg ∧ t.pending = s.pending := by
  cases i with
  | key k p =>
    obtain ⟨es, -, rfl⟩ := execKey_eq_next h
    exact ⟨rfl, rfl⟩
  | mods mask =>
    cases (execMods_eq mask s).symm.trans h
    exact ⟨rfl, rfl⟩
  | move dx dy =>
    obtain ⟨-, -, rfl⟩ := execMove_eq_next h
    exact ⟨rfl, rfl⟩
  | button which down =>
    cases which <;> cases h <;> exact ⟨rfl, rfl⟩
  | hostMsctrlTrigger =>
    cases h
    split <;> simp [frameEmit_eq]
  | hostTriggerArm | hostSpecialIgnored | hostKbdDisable | hostKbdEnable | hostReserved5x | hostRepeatDelay
  | hostRepeatInterval | hostLedStatus | hostOtherFxIgnored | hostHello | hostGoodbye | hostUnrecognized =>
    cases h
    exact ⟨rfl, rfl⟩

/-- A step keeps the configuration (R52). -/
theorem step_keeps_cfg {s s' : State} (h : step s = .next s') : s'.cfg = s.cfg := by
  obtain ⟨-, ⟨-, rfl⟩ | ⟨t, rest, -, hexec⟩⟩ := step_eq_next h
  · rfl
  · exact (exec_keeps_cfg_and_pending hexec).1

/-- Settles O17: the search is `find?` on the keys, whose answer the library splits the list at. -/
theorem lookupAnswersFirstMatch : Obligations.LookupAnswersFirstMatch :=
  fun _ _ => ⟨fun _ => lookup_eq_some_iff, lookup_eq_none_iff⟩

/-- Settles O11: every read is of the configuration, which no step writes. -/
theorem tablesAreImmutable : Obligations.TablesAreImmutable := by
  intro s s' h
  rw [step_keeps_cfg h]
  exact ⟨rfl, fun _ => ⟨rfl, rfl, rfl, rfl, rfl⟩⟩

end Sys2Proof.Machine
end

section
/-! PROOFS. The two encodings the block sends (30_encoding.md section 2): the framed keyboard byte (R74) and the
mouse packet (R75, R190). -/

namespace Sys2Proof.Machine

/-! The framed keyboard byte. -/

/-- The press mask clears bit 7 and the release mask sets it (R74). -/
theorem frameByte_getLsbD_seven_iff (e : Event) : (frameByte e).getLsbD 7 = true ↔ e.kind = .release := by
  obtain ⟨sc, kind⟩ := e
  cases kind with
  | press => simp [frameByte]
  | release => simp [frameByte]

/-- Neither mask touches the bits below bit 7 (R74). -/
theorem frameByte_getLsbD_of_lt_seven (e : Event) {i : Nat} (hi : i < 7) :
    (frameByte e).getLsbD i = e.scancode.getLsbD i := by
  obtain ⟨sc, kind⟩ := e
  cases kind with
  | press =>
    have hmask : ∀ j < 7, (0x7F#8).getLsbD j = true := by decide
    simp [frameByte, hmask i hi]
  | release =>
    have hmask : ∀ j < 7, (0x80#8).getLsbD j = false := by decide
    simp [frameByte, hmask i hi]

/-! The mouse packet. -/

/-- Truncating the accumulated value to 8 bits keeps the low byte of its pattern (R8). -/
theorem trunc8_sext16 (v : Word16) : trunc8 (sext16 v) = v.extractLsb' 0 8 := by
  have hsign : trunc8 (sext16 v) = v.signExtend 8 := rfl
  rw [hsign, BitVec.signExtend_eq_setWidth_of_le v (by decide), BitVec.setWidth_eq_extractLsb' (by decide)]

/-- The two flags of an axis exclude each other: no value is both below -128 and above 127 (R190). -/
theorem overflow_flags_exclusive (acc : Word16) : (overflowNegative acc && overflowPositive acc) = false := by
  rw [Bool.and_eq_false_iff, ← Bool.not_eq_true, ← Bool.not_eq_true, overflowNegative_iff, overflowPositive_iff]
  omega

/-- Settles O18, from what the two masks do to each bit. -/
theorem framedByteFields : Obligations.FramedByteFields :=
  fun e => ⟨frameByte_getLsbD_seven_iff e, fun _ => frameByte_getLsbD_of_lt_seven e⟩

/-- Settles O52: the bits of byte 0 are the flags of R190 and the buttons, and the low bytes are the patterns' own. -/
theorem packetLayout : Obligations.PacketLayout := by
  intro s
  obtain ⟨h7, h6, h5, h4, h3, h2, h1, h0⟩ := packetByte0_bits s.accDX s.accDY s.btnR s.btnL
  refine ⟨packetByte0 s.accDX s.accDY s.btnR s.btnL, ?_, ?_, ?_, ?_, ?_, h3, h2, h1, h0, ?_, ?_⟩
  · simp only [packet, trunc8_sext16]
  · rw [h7, overflowNegative_iff]
  · rw [h6, overflowPositive_iff]
  · rw [h5, overflowNegative_iff]
  · rw [h4, overflowPositive_iff]
  · rw [h7, h6, overflow_flags_exclusive]
  · rw [h5, h4, overflow_flags_exclusive]

end Sys2Proof.Machine
end

section
/-! PROOFS. KEY (40_remapper.md sections 1 and 2): one rule for each branch of the Remapper (R100), and the paths R101
to R109 read off them. -/

namespace Sys2Proof.Machine

section branches
variable {c : Cfg} {k : Byte}

/-! The branch a key edge takes. -/

/-- The alt test comes first, whatever the keycode and ShiftState (R101). -/
theorem remap_altLayer (shift : Bool) (p : EventType) : remap c true shift k p = some (altEvents c k p) := by
  simp [remap]

theorem remap_of_tableLen_le (h : c.tableLen ≤ k.toNat) (shift : Bool) (p : EventType) :
    remap c false shift k p = some [] := by
  simp [remap, h]

theorem remap_shifted (h : k.toNat < c.tableLen) (p : EventType) :
    remap c false true k p = shiftedEvents c k p := by
  simp [remap, Nat.not_le.mpr h]

theorem remap_unshifted (h : k.toNat < c.tableLen) (p : EventType) :
    remap c false false k p = unshiftedEvents c k p := by
  simp [remap, Nat.not_le.mpr h]

/-! What each branch gives, by what its searches and reads answer. -/

theorem shiftedEvents_of_pair {v : Byte} (h : lookup c.forceUnshiftList k = some v) (p : EventType) :
    shiftedEvents c k p = some (forceUnshiftEvents c v p) := by
  simp [shiftedEvents, h]

theorem shiftedEvents_of_no_pair (h : lookup c.forceUnshiftList k = none) (p : EventType) :
    shiftedEvents c k p = overrideEvents c k p := by
  simp [shiftedEvents, h]

theorem unshiftedEvents_of_pair {v : Byte} (h : lookup c.forceShiftList k = some v) (p : EventType) :
    unshiftedEvents c k p = some (forceShiftEvents c v p) := by
  simp [unshiftedEvents, h]

theorem unshiftedEvents_of_no_pair (h : lookup c.forceShiftList k = none) (p : EventType) :
    unshiftedEvents c k p = plainEvents c k p := by
  simp [unshiftedEvents, h]

theorem plainEvents_of_entry {sc : Byte} (h : c.scancodeTable[k.toNat]? = some sc) (p : EventType) :
    plainEvents c k p = some [⟨sc, p⟩] := by
  simp [plainEvents, tableRead, h]

/-- A zero override stands for the plain entry (R105, R106). -/
theorem overrideEvents_of_entries {o sc : Byte} (ho : c.shiftOverrideTable[k.toNat]? = some o)
    (hsc : c.scancodeTable[k.toNat]? = some sc) (p : EventType) :
    overrideEvents c k p = some [⟨if o = 0x00#8 then sc else o, p⟩] := by
  by_cases hzero : o = 0x00#8
  · simp [overrideEvents, tableRead, ho, hzero, plainEvents_of_entry hsc]
  · simp [overrideEvents, tableRead, ho, hzero]

end branches

/-- Settles O21: the alt branch of the Remapper, whose events are the alt entry's or none. -/
theorem keyInAltLayer : Obligations.KeyInAltLayer := by
  intro s k p halt
  have hremap : remap s.cfg s.altLayerState s.shiftState k p = some (altEvents s.cfg k p) := by
    rw [halt, remap_altLayer]
  exact execKey_of_remap hremap

/-- Settles O22: outside the domain the Remapper gives no event, and no event appends nothing. -/
theorem keyOutsideDomainEmitsNothing : Obligations.KeyOutsideDomainEmitsNothing := by
  intro s k p halt hk
  have hremap : remap s.cfg s.altLayerState s.shiftState k p = some [] := by
    rw [halt, remap_of_tableLen_le hk]
  have hexec : exec (.key k p) s = .next { s with kbdOut := s.kbdOut ++ framedBytes .key s [] } :=
    execKey_of_remap hremap
  rw [hexec, framedBytes_nil, List.append_nil]

/-- Settles O23: the shifted branch with a force-unshift pair, on each of the two event types. -/
theorem keyForceUnshift : Obligations.KeyForceUnshift := by
  intro s k v halt hk hshift hv
  have hremap : ∀ p, remap s.cfg s.altLayerState s.shiftState k p = some (forceUnshiftEvents s.cfg v p) := by
    intro p
    rw [halt, hshift, remap_shifted hk, shiftedEvents_of_pair hv]
  exact ⟨execKey_of_remap (hremap .press), execKey_of_remap (hremap .release)⟩

/-- Settles O24: the shifted branch without a pair reads the override, and the plain entry where that is zero. -/
theorem keyShiftedOverrideOrPlain : Obligations.KeyShiftedOverrideOrPlain := by
  intro s k o sc p _ halt hk hshift hnone ho hsc
  apply execKey_of_remap
  rw [halt, hshift, remap_shifted hk, shiftedEvents_of_no_pair hnone, overrideEvents_of_entries ho hsc]

/-- Settles O25: the unshifted branch with a force-shift pair, on each of the two event types. -/
theorem keyForceShift : Obligations.KeyForceShift := by
  intro s k v halt hk hshift hv
  have hremap : ∀ p, remap s.cfg s.altLayerState s.shiftState k p = some (forceShiftEvents s.cfg v p) := by
    intro p
    rw [halt, hshift, remap_unshifted hk, unshiftedEvents_of_pair hv]
  exact ⟨execKey_of_remap (hremap .press), execKey_of_remap (hremap .release)⟩

/-- Settles O26: the unshifted branch without a pair reads the plain entry. -/
theorem keyUnshiftedPlain : Obligations.KeyUnshiftedPlain := by
  intro s k sc p halt hk hshift hnone hsc
  apply execKey_of_remap
  rw [halt, hshift, remap_unshifted hk, unshiftedEvents_of_no_pair hnone, plainEvents_of_entry hsc]

end Sys2Proof.Machine
end

section
/-! PROOFS. HOST (43_host_commands.md sections 2 to 4 and 6): the trigger with and without its arm byte (R173, R192),
the keyboard switched off and on (R176, R177), and the classes that only store their byte. -/

namespace Sys2Proof.Machine

/-! The trigger, by what LastByte holds. -/

/-- Directly after the arm byte the trigger is the frame of R192 and the store of its own byte. -/
theorem execHostMsctrlTrigger_of_armed {s : State} (h : s.lastByte = 0x41#8) :
    execHostMsctrlTrigger s = .next
      { s with lastByte := 0x40#8, accDX := 0, accDY := 0, mouseOut := s.mouseOut ++ packet s } := by
  simp [execHostMsctrlTrigger, h, frameEmit_eq, State.setLastByte]

theorem execHostMsctrlTrigger_of_not_armed {s : State} (h : s.lastByte ≠ 0x41#8) :
    execHostMsctrlTrigger s = .next { s with lastByte := 0x40#8 } := by
  simp [execHostMsctrlTrigger, h, State.setLastByte]

/-! The gate while the keyboard is disabled. -/

/-- Only MODS under `key_events_only` passes the gate of a disabled keyboard (R55). -/
theorem framedBytes_of_disabled {o : Origin} {s : State} (hoff : s.keyboardEnabled = false)
    (h : ¬(o = .mod ∧ s.cfg.kbdGateScope = .keyEventsOnly)) (es : List Event) : framedBytes o s es = [] := by
  have hshut : gateOpen s.cfg s.keyboardEnabled o = false := by simpa [gateOpen, hoff] using h
  exact framedBytes_gate_shut hshut es

/-- Settles O48: each of the five meanings is the one write of LastByte, with the class's high nibble in front. -/
theorem ignoredHostBytesStoreOnlyLastByte : Obligations.IgnoredHostBytesStoreOnlyLastByte :=
  fun _ _ => ⟨rfl, rfl, rfl, rfl, rfl⟩

/-- Settles O50: each meaning is its two writes, the same when repeated, and 0x48 leaves the gate shut. -/
theorem keyboardDisableAndEnable : Obligations.KeyboardDisableAndEnable := by
  intro s
  constructor
  · refine ⟨_, rfl, rfl, rfl, ?_, ?_⟩
    · exact framedBytes_of_disabled rfl (by simp)
    · intro hscope
      exact framedBytes_of_disabled rfl (by simp [hscope])
  · exact ⟨_, rfl, rfl, rfl⟩

/-- Settles O51: the two cases of the trigger. -/
theorem triggerEmitsFrameOnlyAfterArm : Obligations.TriggerEmitsFrameOnlyAfterArm :=
  fun _ => ⟨execHostMsctrlTrigger_of_armed, execHostMsctrlTrigger_of_not_armed⟩

/-- Settles O54: the armed trigger, with the packet of these values computed. -/
theorem sourceFrameExample : Obligations.SourceFrameExample := by
  intro s harmed hx hy hleft hright
  have hpacket : packet s = [0x11#8, 0x2C#8, 0xFB#8] := by
    simp only [packet, hx, hy, hleft, hright]
    decide
  rw [← hpacket]
  exact execHostMsctrlTrigger_of_armed harmed

end Sys2Proof.Machine
end

section
/-! PROOFS. The encoding (30_encoding.md sections 1 and 4): a host byte and its two fields, what each class of bytes
decodes to, and the rows of the opcode table, of which no two share a byte (R70, R71). -/

namespace Sys2Proof

/-! A byte and its fields (R70). -/

theorem byteOf_hiNibble_loNibble (b : Byte) : byteOf (hiNibble b) (loNibble b) = b := by
  have h := BitVec.extractLsb'_append_extractLsb'_eq_extractLsb' (x := b) (start₁ := 0) (start₂ := 4)
    (len₁ := 4) (len₂ := 4) rfl
  simpa [byteOf, hiNibble, loNibble] using h

/-! What the bytes of each class decode to (R71). -/

theorem decodeHostByte_special : ∀ lo, specialLow lo = true →
    decodeHostByte (byteOf 0x4#4 lo) = .hostSpecialIgnored lo := by decide

theorem decodeHostByte_reserved5x : ∀ lo, decodeHostByte (byteOf 0x5#4 lo) = .hostReserved5x lo := by decide

theorem decodeHostByte_repeatDelay : ∀ lo, decodeHostByte (byteOf 0x6#4 lo) = .hostRepeatDelay lo := by decide

theorem decodeHostByte_repeatInterval : ∀ lo, decodeHostByte (byteOf 0x7#4 lo) = .hostRepeatInterval lo := by decide

theorem decodeHostByte_ledStatus : ∀ lo, decodeHostByte (byteOf 0x8#4 lo) = .hostLedStatus lo := by decide

theorem decodeHostByte_otherFx : ∀ lo, otherFxLow lo = true →
    decodeHostByte (byteOf 0xF#4 lo) = .hostOtherFxIgnored lo := by decide

/-- The unlisted bytes are those of the high nibbles 0 to 3 and 9 to 14 (R185). -/
theorem unrecognizedByte_iff_hiNibble : ∀ b : Byte, unrecognizedByte b = true ↔
    hiNibble b ≠ 0x4#4 ∧ hiNibble b ≠ 0x5#4 ∧ hiNibble b ≠ 0x6#4 ∧ hiNibble b ≠ 0x7#4 ∧ hiNibble b ≠ 0x8#4 ∧
      hiNibble b ≠ 0xF#4 := by decide

theorem decodeHostByte_unrecognized {b : Byte} (h : unrecognizedByte b = true) :
    decodeHostByte b = .hostUnrecognized b := by
  obtain ⟨h4, h5, h6, h7, h8, hF⟩ := (unrecognizedByte_iff_hiNibble b).mp h
  have hne (c : Byte) (hc : hiNibble c = 0x4#4 ∨ hiNibble c = 0xF#4) : b ≠ c := by
    rintro rfl
    exact hc.elim h4 hF
  simp [decodeHostByte, h4, h5, h6, h7, h8, hF, hne 0x40#8 (.inl rfl), hne 0x41#8 (.inl rfl), hne 0x48#8 (.inl rfl),
    hne 0x49#8 (.inl rfl), hne 0xFD#8 (.inr rfl), hne 0xFF#8 (.inr rfl)]

theorem specialLow_eq_false_iff (lo : Nibble) :
    specialLow lo = false ↔ lo = 0x0#4 ∨ lo = 0x1#4 ∨ lo = 0x8#4 ∨ lo = 0x9#4 := by
  revert lo; decide

theorem otherFxLow_eq_false_iff (lo : Nibble) : otherFxLow lo = false ↔ lo = 0xD#4 ∨ lo = 0xF#4 := by
  revert lo; decide

/-- Every host byte decodes to a well-formed instruction that is encoded as this byte, class by class (R71). -/
theorem decodeHostByte_spec (b : Byte) :
    (decodeHostByte b).wellFormed = true ∧ encode (decodeHostByte b) = .host b := by
  by_cases hunlisted : unrecognizedByte b = true
  · rw [decodeHostByte_unrecognized hunlisted]
    exact ⟨hunlisted, rfl⟩
  · have hclass : hiNibble b = 0x4#4 ∨ hiNibble b = 0x5#4 ∨ hiNibble b = 0x6#4 ∨ hiNibble b = 0x7#4 ∨
        hiNibble b = 0x8#4 ∨ hiNibble b = 0xF#4 := by
      rw [unrecognizedByte_iff_hiNibble] at hunlisted
      tauto
    obtain ⟨lo, hlo⟩ : ∃ lo, b = byteOf (hiNibble b) lo := ⟨_, (byteOf_hiNibble_loNibble b).symm⟩
    rcases hclass with h | h | h | h | h | h <;> rw [hlo, h]
    · cases hspecial : specialLow lo with
      | true =>
        rw [decodeHostByte_special lo hspecial]
        exact ⟨hspecial, rfl⟩
      | false =>
        obtain rfl | rfl | rfl | rfl := (specialLow_eq_false_iff lo).mp hspecial <;> exact ⟨rfl, rfl⟩
    · rw [decodeHostByte_reserved5x]
      exact ⟨rfl, rfl⟩
    · rw [decodeHostByte_repeatDelay]
      exact ⟨rfl, rfl⟩
    · rw [decodeHostByte_repeatInterval]
      exact ⟨rfl, rfl⟩
    · rw [decodeHostByte_ledStatus]
      exact ⟨rfl, rfl⟩
    · cases hother : otherFxLow lo with
      | true =>
        rw [decodeHostByte_otherFx lo hother]
        exact ⟨hother, rfl⟩
      | false =>
        obtain rfl | rfl := (otherFxLow_eq_false_iff lo).mp hother <;> exact ⟨rfl, rfl⟩

/-! The rows of the opcode table. -/

/-- Two rows that are not the same one differ in a bit that both fix. -/
theorem hostRows_differ_in_fixed_bit : ∀ r ∈ hostRows, ∀ r' ∈ hostRows,
    r' = r ∨ (r'.pattern ^^^ r.pattern) &&& (r'.mask &&& r.mask) ≠ 0#8 := by decide

/-- Two rows that hold the same byte agree in every bit that both fix. -/
theorem HostRow.patterns_agree {r r' : HostRow} {b : Byte} (h : r.holds b = true) (h' : r'.holds b = true) :
    (r'.pattern ^^^ r.pattern) &&& (r'.mask &&& r.mask) = 0#8 := by
  have hr : b &&& r.mask = r.pattern := by simpa [HostRow.holds] using h
  have hr' : b &&& r'.mask = r'.pattern := by simpa [HostRow.holds] using h'
  rw [← hr, ← hr']
  ext i hi
  simp only [BitVec.getElem_and, BitVec.getElem_xor, BitVec.getElem_zero]
  cases b[i] <;> cases r.mask[i] <;> cases r'.mask[i] <;> rfl

/-- No byte is in two rows (R71). -/
theorem hostRows_unique {r r' : HostRow} {b : Byte} (hr : r ∈ hostRows) (hr' : r' ∈ hostRows)
    (h : r.holds b = true) (h' : r'.holds b = true) : r' = r :=
  (hostRows_differ_in_fixed_bit r hr r' hr').resolve_right fun hne => hne (HostRow.patterns_agree h h')

/-- Every instruction stands in the opcode table as `Laws.TableRow` says, by the law of its own mnemonic. -/
theorem tableRow_statement (i : Instr) : Laws.TableRow.Statement i := by
  cases i with
  | hostMsctrlTrigger => exact Laws.TableRow.hostMsctrlTrigger
  | hostTriggerArm => exact Laws.TableRow.hostTriggerArm
  | hostSpecialIgnored lo => exact Laws.TableRow.hostSpecialIgnored lo
  | hostKbdDisable => exact Laws.TableRow.hostKbdDisable
  | hostKbdEnable => exact Laws.TableRow.hostKbdEnable
  | hostReserved5x lo => exact Laws.TableRow.hostReserved5x lo
  | hostRepeatDelay lo => exact Laws.TableRow.hostRepeatDelay lo
  | hostRepeatInterval lo => exact Laws.TableRow.hostRepeatInterval lo
  | hostLedStatus lo => exact Laws.TableRow.hostLedStatus lo
  | hostOtherFxIgnored lo => exact Laws.TableRow.hostOtherFxIgnored lo
  | hostHello => exact Laws.TableRow.hostHello
  | hostGoodbye => exact Laws.TableRow.hostGoodbye
  | hostUnrecognized b => exact Laws.TableRow.hostUnrecognized b
  | key k p => exact Laws.TableRow.key k p
  | mods mask => exact Laws.TableRow.mods mask
  | move dx dy => exact Laws.TableRow.move dx dy
  | button which down => exact Laws.TableRow.button which down

/-- Settles O1: a HOST class by what its bytes decode to, a USB-side instruction by its record. -/
theorem decodeInvertsEncode : Obligations.DecodeInvertsEncode := by
  intro i hwf
  cases i with
  | hostSpecialIgnored lo => exact decodeHostByte_special lo hwf
  | hostReserved5x lo => exact decodeHostByte_reserved5x lo
  | hostRepeatDelay lo => exact decodeHostByte_repeatDelay lo
  | hostRepeatInterval lo => exact decodeHostByte_repeatInterval lo
  | hostLedStatus lo => exact decodeHostByte_ledStatus lo
  | hostOtherFxIgnored lo => exact decodeHostByte_otherFx lo hwf
  | hostUnrecognized b => exact decodeHostByte_unrecognized hwf
  | hostMsctrlTrigger | hostTriggerArm | hostKbdDisable | hostKbdEnable | hostHello | hostGoodbye => rfl
  | key | mods | move | button => rfl

/-- Settles O2: a host byte by the branch of the command map it takes, a USB-side record as it stands. -/
theorem everyTransactionIsOneInstruction : Obligations.EveryTransactionIsOneInstruction := by
  intro t
  cases t with
  | host b => exact decodeHostByte_spec b
  | key | mods | move | button => exact ⟨rfl, rfl⟩

/-- Settles O3: the row is that of the decoded instruction's mnemonic, and the rows share no byte. -/
theorem hostByteInExactlyOneTableRow : Obligations.HostByteInExactlyOneTableRow := by
  intro b
  obtain ⟨hwf, hencode⟩ := decodeHostByte_spec b
  have hrow := tableRow_statement (decodeHostByte b) hwf
  rw [hencode] at hrow
  cases hclass : (decodeHostByte b).hostClass with
  | none => simp [hclass] at hrow
  | some c =>
    simp only [hclass] at hrow
    obtain ⟨r, hmem, rfl, hholds⟩ := hrow
    exact ⟨r, hmem, hholds, rfl, fun r' hmem' hholds' => hostRows_unique hmem hmem' hholds hholds'⟩

/-- Settles O4: the decoder computes each of the eight words. -/
theorem sampleWordsDecode : Obligations.SampleWordsDecode :=
  ⟨rfl, rfl, rfl, rfl, rfl, rfl, rfl, rfl⟩

end Sys2Proof
end

section
/-! PROOFS. The keyboard frame generator (20_memory.md sections 2 and 3, R55, R56): what one event gives, by the zero
test and the gate, and what a sequence gives. -/

namespace Sys2Proof.Machine

section frame
variable {o : Origin} {s : State} {e : Event}

/-- The three outcomes of R55 for one event. -/
theorem frame_eq (c : Cfg) (enabled : Bool) (o : Origin) (e : Event) : frame c enabled o e =
    if e.scancode = 0x00#8 ∧ c.zeroScancodeEmits = false then none
    else if enabled = true ∨ (o = .mod ∧ c.kbdGateScope = .keyEventsOnly) then some (frameByte e)
    else none := by
  simp [frame, silentScancode, gateOpen]

theorem framedBytes_cons_of_nonzero (hon : s.keyboardEnabled = true) (hsc : e.scancode ≠ 0x00#8) (es : List Event) :
    framedBytes o s (e :: es) = frameByte e :: framedBytes o s es := by
  simp [framedBytes_cons, frame_eq, hon, hsc]

theorem framedBytes_cons_of_zeroScancodeEmits (hon : s.keyboardEnabled = true)
    (hemits : s.cfg.zeroScancodeEmits = true) (es : List Event) :
    framedBytes o s (e :: es) = frameByte e :: framedBytes o s es := by
  simp [framedBytes_cons, frame_eq, hon, hemits]

theorem framedBytes_cons_of_silent (hsc : e.scancode = 0x00#8) (hsilent : s.cfg.zeroScancodeEmits = false)
    (es : List Event) : framedBytes o s (e :: es) = framedBytes o s es := by
  simp [framedBytes_cons, frame_eq, hsc, hsilent]

/-- No event gives more than one byte. -/
theorem framedBytes_length_le (o : Origin) (s : State) (es : List Event) :
    (framedBytes o s es).length ≤ es.length := by
  unfold framedBytes
  exact List.length_filterMap_le _ _

/-- Under `key_events_only` KeyboardEnabled does not matter to a modifier event (R55). -/
theorem framedBytes_mod_of_keyEventsOnly {t : State} (hcfg : t.cfg = s.cfg)
    (hscope : s.cfg.kbdGateScope = .keyEventsOnly) (es : List Event) :
    framedBytes .mod t es = framedBytes .mod s es := by
  have hframe : frame s.cfg t.keyboardEnabled .mod = frame s.cfg s.keyboardEnabled .mod := by
    funext e
    simp [frame_eq, hscope]
  simp only [framedBytes, hcfg, hframe]

end frame

/-- Settles O19: the three outcomes of the frame of one event. -/
theorem emitAppendsOneFramedByteOrNothing : Obligations.EmitAppendsOneFramedByteOrNothing := by
  intro o s e
  have hbyte : frameByte e = if e.kind = .press then e.scancode &&& 0x7F#8 else e.scancode ||| 0x80#8 := by
    obtain ⟨sc, kind⟩ := e
    cases kind <;> rfl
  rw [emit_eq, frame_eq, ← hbyte]
  split_ifs <;> simp

/-- Settles O20: the frame of the first event, and the one effect of a sequence. -/
theorem eventsAreFramedInOrder : Obligations.EventsAreFramedInOrder := by
  intro o s e es
  refine ⟨framedBytes_nil o s, ?_, emitAll_eq o s es⟩
  rw [framedBytes_cons, frame_eq]
  split_ifs <;> rfl

end Sys2Proof.Machine
end

section
/-! PROOFS. KEY as a whole (40_remapper.md section 3): the number of events on each path (R113), the frame (R111), the
shut gate (R112) and the zero Shift scancode (R110). -/

namespace Sys2Proof.Machine

section counts
variable {c : Cfg} {k : Byte}

theorem altEvents_length (c : Cfg) (k : Byte) (p : EventType) :
    (altEvents c k p).length = if lookup c.altKeyTable k = none then 0 else 1 := by
  cases h : lookup c.altKeyTable k <;> simp [altEvents, h]

/-- Only a press of a force-unshift pair is more than one event (R103, R104). -/
theorem forceUnshiftEvents_length (c : Cfg) (v : Byte) (p : EventType) :
    (forceUnshiftEvents c v p).length = if p = .press then 3 else 1 := by
  cases p <;> rfl

/-- Only a press of a force-shift pair is more than one event (R107, R108). -/
theorem forceShiftEvents_length (c : Cfg) (v : Byte) (p : EventType) :
    (forceShiftEvents c v p).length = if p = .press then 3 else 1 := by
  cases p <;> rfl

/-- Inside the domain of a well-formed configuration both table entries exist (R31 (b), R50). -/
theorem entries_of_wellFormed (hc : CfgWellFormed c) (hk : k.toNat < c.tableLen) :
    ∃ o sc, c.shiftOverrideTable[k.toNat]? = some o ∧ c.scancodeTable[k.toNat]? = some sc := by
  obtain ⟨hscancode, hoverride, -⟩ := arrays_of_wellFormed hc
  exact ⟨_, _, List.getElem?_eq_getElem (hoverride ▸ hk), List.getElem?_eq_getElem (hscancode ▸ hk)⟩

/-- The shifted branch gives 3 events on a press of a force-unshift pair and else 1. -/
theorem shiftedEvents_count (hc : CfgWellFormed c) (hk : k.toNat < c.tableLen) (p : EventType) :
    ∃ es, shiftedEvents c k p = some es ∧
      es.length = if p = .press ∧ lookup c.forceUnshiftList k ≠ none then 3 else 1 := by
  cases hpair : lookup c.forceUnshiftList k with
  | some v => exact ⟨_, shiftedEvents_of_pair hpair p, by simp [forceUnshiftEvents_length]⟩
  | none =>
    obtain ⟨o, sc, ho, hsc⟩ := entries_of_wellFormed hc hk
    exact ⟨_, (shiftedEvents_of_no_pair hpair p).trans (overrideEvents_of_entries ho hsc p), by simp⟩

/-- The unshifted branch gives 3 events on a press of a force-shift pair and else 1. -/
theorem unshiftedEvents_count (hc : CfgWellFormed c) (hk : k.toNat < c.tableLen) (p : EventType) :
    ∃ es, unshiftedEvents c k p = some es ∧
      es.length = if p = .press ∧ lookup c.forceShiftList k ≠ none then 3 else 1 := by
  cases hpair : lookup c.forceShiftList k with
  | some v => exact ⟨_, unshiftedEvents_of_pair hpair p, by simp [forceShiftEvents_length]⟩
  | none =>
    obtain ⟨-, sc, -, hsc⟩ := entries_of_wellFormed hc hk
    exact ⟨_, (unshiftedEvents_of_no_pair hpair p).trans (plainEvents_of_entry hsc p), by simp⟩

end counts

/-- Settles O28: the count of the branch taken. -/
theorem keyEventCount : Obligations.KeyEventCount := by
  intro c alt shift k p hc
  cases alt with
  | true =>
    refine ⟨_, remap_altLayer shift p, ?_⟩
    rw [altEvents_length]
    by_cases hmiss : lookup c.altKeyTable k = none <;> simp [hmiss]
  | false =>
    by_cases hk : c.tableLen ≤ k.toNat
    · exact ⟨[], remap_of_tableLen_le hk shift p, by simp [hk]⟩
    · rw [Nat.not_le] at hk
      cases shift with
      | true =>
        obtain ⟨es, hes, hlen⟩ := shiftedEvents_count hc hk p
        refine ⟨es, (remap_shifted hk p).trans hes, ?_⟩
        rw [hlen]
        split_ifs with hpress <;> simp [hk, hpress]
      | false =>
        obtain ⟨es, hes, hlen⟩ := unshiftedEvents_count hc hk p
        refine ⟨es, (remap_unshifted hk p).trans hes, ?_⟩
        rw [hlen]
        split_ifs with hpress <;> simp [hk, hpress]

/-- Under a well-formed configuration KEY appends the framed bytes of some events and changes nothing else. -/
theorem execKey_completes {s : State} (hc : CfgWellFormed s.cfg) (k : Byte) (p : EventType) :
    ∃ es, exec (.key k p) s = .next { s with kbdOut := s.kbdOut ++ framedBytes .key s es } := by
  obtain ⟨es, hes⟩ := remap_total hc s.altLayerState s.shiftState k p
  exact ⟨es, execKey_of_remap hes⟩

/-- Settles O27: the bytes are the framed events of the Remapper. -/
theorem keyCompletesAndWritesNoRegister : Obligations.KeyCompletesAndWritesNoRegister := by
  intro s k p hc
  obtain ⟨es, hexec⟩ := execKey_completes hc k p
  exact ⟨_, hexec⟩

/-- Settles O29: the gate of a disabled keyboard is shut for KEY under either scope. -/
theorem keyWhileDisabledChangesNothing : Obligations.KeyWhileDisabledChangesNothing := by
  intro s k p hc hoff
  obtain ⟨es, hexec⟩ := execKey_completes hc k p
  rw [hexec, framedBytes_of_disabled hoff (by simp), List.append_nil]

/-- Settles O30: the three events of the force-shift press, of which the zero test concerns the two of Shift. -/
theorem zeroShiftScancodeInForceShift : Obligations.ZeroShiftScancodeInForceShift := by
  intro s k v halt hk hshift hon hzero hpair hv
  obtain ⟨hexec, -⟩ := keyForceShift s k v halt hk hshift hpair
  rw [hexec, hzero]
  cases hemits : s.cfg.zeroScancodeEmits with
  | true => simp [framedBytes_cons_of_zeroScancodeEmits hon hemits, frameByte]
  | false =>
    rw [framedBytes_cons_of_silent rfl hemits, framedBytes_cons_of_nonzero hon hv,
      framedBytes_cons_of_silent rfl hemits, framedBytes_nil]
    rfl

end Sys2Proof.Machine
end

section
/-! PROOFS. MODS (41_modifiers.md): the events and the registers as functions of the bits of the two masks (R130 to
R135), and what a report of one changed bit comes to. -/

namespace Sys2Proof.Machine

/-! The events of a report. -/

/-- The bits whose change gives an event, in evaluation order, each with its scancode (R130, R132). -/
def reportedBits (c : Cfg) : List (Nat × Byte) :=
  [(0, c.lctrlSc), (1, c.shiftSc), (2, c.laltSc), (4, c.rctrlSc), (5, c.shiftSc), (6, c.raltSc)]

theorem modifierEvent_of_scancode {c : Cfg} {d : Modifier} {sc : Byte} (h : modifierScancode c d = some sc)
    (q m : Byte) : (modifierEvent c q m d).toList = changedBitEvents q m (modifierBit d) sc := by
  unfold modifierEvent changedBitEvents modifierChanged modifierHeld edgeKind
  by_cases hbit : m.getLsbD (modifierBit d) = q.getLsbD (modifierBit d)
  · simp [hbit]
  · simp only [h, hbit, bne_iff_ne, ne_eq, not_false_eq_true, if_true, if_false]
    rfl

theorem modifierEvent_of_no_scancode {c : Cfg} {d : Modifier} (h : modifierScancode c d = none) (q m : Byte) :
    (modifierEvent c q m d).toList = [] := by
  simp [modifierEvent, h]

/-- The events of a report are those of its reported bits; the GUI bits give none (R135, R136). -/
theorem modifierEvents_eq_flatMap (c : Cfg) (q m : Byte) :
    modifierEvents c q m = (reportedBits c).flatMap fun x => changedBitEvents q m x.1 x.2 := by
  have hscancode {d : Modifier} {sc : Byte} (h : modifierScancode c d = some sc) :=
    modifierEvent_of_scancode h q m
  have hgui {d : Modifier} (h : modifierScancode c d = none) := modifierEvent_of_no_scancode h q m
  simp only [modifierEvents, modifierOrder, List.filterMap_eq_flatMap_toList, List.flatMap_cons, List.flatMap_nil,
    hscancode (d := .lctrl) rfl, hscancode (d := .lshift) rfl, hscancode (d := .lalt) rfl, hgui (d := .lgui) rfl,
    hscancode (d := .rctrl) rfl, hscancode (d := .rshift) rfl, hscancode (d := .ralt) rfl, hgui (d := .rgui) rfl]
  rfl

/-- A report of the same mask gives no event (R131). -/
theorem modifierEvents_self (c : Cfg) (m : Byte) : modifierEvents c m m = [] := by
  simp [modifierEvents, modifierOrder, modifierEvent, modifierChanged]

/-! The registers after a report. -/

theorem nextAltLayerState_eq (s : State) (m : Byte) : nextAltLayerState s m =
    if m.getLsbD 3 = s.prevMods.getLsbD 3 then s.altLayerState else m.getLsbD 3 := by
  simp [nextAltLayerState, modifierChanged, modifierHeld, modifierBit]

theorem shiftPolicy_eq (c : Cfg) (q m : Byte) : shiftPolicy c q m =
    if c.shiftStatePolicy = .orOfBits then (m.getLsbD 1 || m.getLsbD 5)
    else if m.getLsbD 5 = q.getLsbD 5 then m.getLsbD 1 else m.getLsbD 5 := by
  cases hpolicy : c.shiftStatePolicy with
  | orOfBits => simp [shiftPolicy, hpolicy, modifierHeld, modifierBit]
  | lastEdge =>
    simp [shiftPolicy, hpolicy, modifierChanged, modifierHeld, modifierBit]

theorem nextShiftState_eq (s : State) (m : Byte) : nextShiftState s m =
    if m.getLsbD 1 = s.prevMods.getLsbD 1 ∧ m.getLsbD 5 = s.prevMods.getLsbD 5 then s.shiftState
    else if s.cfg.shiftStatePolicy = .orOfBits then (m.getLsbD 1 || m.getLsbD 5)
    else if m.getLsbD 5 = s.prevMods.getLsbD 5 then m.getLsbD 1 else m.getLsbD 5 := by
  rw [← shiftPolicy_eq]
  simp only [nextShiftState, modifierChanged, modifierHeld, modifierBit, Bool.or_eq_true, bne_iff_ne, ne_eq,
    ← not_and_or, ite_not]

/-- MODS keeps R139: a changed bit writes its register, and an unchanged one is what the register held already. -/
theorem execMods_keeps_consistent {s t : State} {m : Byte} (hs : ModifierConsistent s)
    (h : execMods m s = .next t) : ModifierConsistent t := by
  obtain ⟨halt, hshift⟩ := hs
  cases (execMods_eq m s).symm.trans h
  refine ⟨?_, fun hpolicy => ?_⟩
  · dsimp only
    rw [nextAltLayerState_eq, halt]
    split_ifs with h3
    · exact h3.symm
    · rfl
  · dsimp only
    rw [nextShiftState_eq, hshift hpolicy]
    rw [if_pos hpolicy]
    split_ifs with hsame
    · rw [hsame.1, hsame.2]
    · rfl

/-! A report of one changed bit. -/

theorem getLsbD_xor_bit (q : Byte) {i j : Nat} (hj : j < 8) :
    (q ^^^ (1#8 <<< i)).getLsbD j = (q.getLsbD j ^^ decide (j = i)) := by
  rw [BitVec.getLsbD_xor, BitVec.getLsbD_shiftLeft, BitVec.getLsbD_one]
  congr 1
  rw [Bool.eq_iff_iff]
  simp
  omega

theorem changedBitEvents_xor_bit (q : Byte) {i j : Nat} (hj : j < 8) (sc : Byte) :
    changedBitEvents q (q ^^^ (1#8 <<< i)) j sc =
      if j = i then [⟨sc, if q.getLsbD i then .release else .press⟩] else [] := by
  unfold changedBitEvents
  rw [getLsbD_xor_bit q hj]
  by_cases hji : j = i
  · subst hji
    cases q.getLsbD j <;> simp
  · simp [hji]

/-- A report in which one bit other than the Shift bits changed gives that bit's own event, if it has one, and writes
the Left-GUI bit to AltLayerState if it is that (R133, R135 to R137). -/
theorem execMods_singleBit (s : State) {i : Nat} (h1 : i ≠ 1) (h5 : i ≠ 5) :
    exec (.mods (s.prevMods ^^^ (1#8 <<< i))) s = .next { s with
      prevMods := s.prevMods ^^^ (1#8 <<< i)
      altLayerState := if i = 3 then !s.prevMods.getLsbD 3 else s.altLayerState
      kbdOut := s.kbdOut ++ framedBytes .mod s ((reportedBits s.cfg).flatMap fun x =>
        if x.1 = i then [⟨x.2, if s.prevMods.getLsbD i then .release else .press⟩] else []) } := by
  have hbits : ∀ x ∈ reportedBits s.cfg, x.1 < 8 := by simp [reportedBits]
  have hevents : modifierEvents s.cfg s.prevMods (s.prevMods ^^^ (1#8 <<< i)) =
      (reportedBits s.cfg).flatMap fun x =>
        if x.1 = i then [⟨x.2, if s.prevMods.getLsbD i then .release else .press⟩] else [] := by
    rw [modifierEvents_eq_flatMap]
    exact List.flatMap_congr fun x hx => changedBitEvents_xor_bit s.prevMods (hbits x hx) x.2
  have halt : nextAltLayerState s (s.prevMods ^^^ (1#8 <<< i)) =
      if i = 3 then !s.prevMods.getLsbD 3 else s.altLayerState := by
    rw [nextAltLayerState_eq, getLsbD_xor_bit _ (by decide)]
    by_cases h3 : i = 3
    · simp [h3]
    · simp [h3, Ne.symm h3]
  have hshift : nextShiftState s (s.prevMods ^^^ (1#8 <<< i)) = s.shiftState := by
    rw [nextShiftState_eq, getLsbD_xor_bit _ (by decide), getLsbD_xor_bit _ (by decide), if_pos]
    simp [h1.symm, h5.symm]
  rw [show exec (.mods _) s = _ from execMods_eq _ s, hevents, halt, hshift]

/-- Settles O32: the record update of MODS, with the events and both registers by the bits. -/
theorem modsTransaction : Obligations.ModsTransaction := by
  intro s m
  have hexec : exec (.mods m) s = _ := execMods_eq m s
  rw [hexec, nextAltLayerState_eq, nextShiftState_eq, modifierEvents_eq_flatMap]
  simp [reportedBits]

/-- A report of the mask that PrevMods holds changes nothing (R131). -/
theorem exec_mods_prevMods {s : State} {m : Byte} (h : s.prevMods = m) : exec (.mods m) s = .next s := by
  subst h
  have hexec : exec (.mods s.prevMods) s = _ := execMods_eq s.prevMods s
  rw [hexec, nextAltLayerState_eq, nextShiftState_eq, modifierEvents_self]
  simp

/-- Settles O33: PrevMods is the mask after the first report. -/
theorem secondEqualMaskChangesNothing : Obligations.SecondEqualMaskChangesNothing :=
  fun s m => ⟨_, execMods_eq m s, rfl, exec_mods_prevMods rfl⟩

/-- Settles O34: the report of the one bit, whose event is the only one. -/
theorem singleCtrlOrAltChange : Obligations.SingleCtrlOrAltChange := by
  intro s i sc hmem
  simp only [List.mem_cons, Prod.mk.injEq, List.not_mem_nil, or_false] at hmem
  obtain ⟨rfl, rfl⟩ | ⟨rfl, rfl⟩ | ⟨rfl, rfl⟩ | ⟨rfl, rfl⟩ := hmem <;>
    rw [execMods_singleBit s (by decide) (by decide)] <;> simp [reportedBits]

/-- Settles O35: bit 7 is not reported and not the Left-GUI bit. -/
theorem rightGuiWritesOnlyPrevMods : Obligations.RightGuiWritesOnlyPrevMods := by
  intro s
  have h := execMods_singleBit s (i := 7) (by decide) (by decide)
  simpa [reportedBits] using h

/-- Settles O36: bit 3 is not reported, and AltLayerState was its old value. -/
theorem leftGuiTogglesTheAltLayer : Obligations.LeftGuiTogglesTheAltLayer := by
  intro s hs
  obtain ⟨halt, -⟩ := hs
  have h := execMods_singleBit s (i := 3) (by decide) (by decide)
  rw [← halt] at h
  simpa [reportedBits] using h

/-- Each bit of a list gives one event exactly when it changed. -/
theorem length_flatMap_changedBitEvents (q m : Byte) (l : List (Nat × Byte)) :
    (l.flatMap fun x => changedBitEvents q m x.1 x.2).length =
      ((l.map Prod.fst).filter fun i => m.getLsbD i != q.getLsbD i).length := by
  induction l with
  | nil => rfl
  | cons x l ih =>
    by_cases hx : m.getLsbD x.1 = q.getLsbD x.1
    · simp [changedBitEvents, hx, ← ih]
    · simp [changedBitEvents, hx, ← ih, Nat.add_comm]

/-- Settles O39: the count of the reported bits that changed. -/
theorem modsEventCount : Obligations.ModsEventCount := by
  intro c q m
  rw [modifierEvents_eq_flatMap, length_flatMap_changedBitEvents]
  rfl

/-- Settles O40: the registers do not depend on KeyboardEnabled, and the bytes only through the gate. -/
theorem disabledKeyboardStillTracksModifiers : Obligations.DisabledKeyboardStillTracksModifiers := by
  intro s m hoff
  refine ⟨_, _, execMods_eq m s, execMods_eq m _, rfl, rfl, rfl, ?_, ?_⟩
  · intro hscope
    dsimp only
    rw [framedBytes_of_disabled hoff (by simp [hscope]), List.append_nil]
  · intro hscope
    have hbytes := framedBytes_mod_of_keyEventsOnly (s := s) (t := { s with keyboardEnabled := true }) rfl hscope
    exact congrArg (s.kbdOut ++ ·) (hbytes _).symm

/-- From the mask 0 the changed bits are the set ones, and every change is a press. -/
theorem flatMap_changedBitEvents_zero (m : Byte) (l : List (Nat × Byte)) :
    (l.flatMap fun x => changedBitEvents 0x00#8 m x.1 x.2) =
      (l.filter fun x => m.getLsbD x.1).map fun x => ⟨x.2, .press⟩ := by
  induction l with
  | nil => rfl
  | cons x l ih =>
    rw [List.flatMap_cons, ih]
    cases hx : m.getLsbD x.1 <;> simp [changedBitEvents, hx]

/-- Settles O41: the reset mask is 0, so every set bit is a press, and both registers take the bits. -/
theorem firstModsAfterResetReportsHeldModifiers : Obligations.FirstModsAfterResetReportsHeldModifiers := by
  intro c m
  refine ⟨_, execMods_eq m _, ?_, ?_, ?_⟩
  · rw [nextShiftState_eq]
    cases m.getLsbD 1 <;> cases m.getLsbD 5 <;> simp [State.resetWith]
  · rw [nextAltLayerState_eq]
    cases m.getLsbD 3 <;> simp [State.resetWith]
  · have hevents : modifierEvents c 0x00#8 m =
        ((reportedBits c).filter fun x => m.getLsbD x.1).map fun x => ⟨x.2, .press⟩ := by
      rw [modifierEvents_eq_flatMap, flatMap_changedBitEvents_zero]
    exact congrArg (framedBytes .mod (State.resetWith c)) hevents

end Sys2Proof.Machine
end

section
/-! PROOFS. The whole HOST transaction (43_host_commands.md sections 1 to 5): what each of the 256 bytes does, and the
classes that only store their byte. -/

namespace Sys2Proof.Machine

/-- The state after a host byte: a frame on an armed 0x40, the keyboard switch on 0x48 and 0x49, and in every case the
byte stored (R170, R171). -/
def hostResult (b : Byte) (s : State) : State :=
  if b = 0x40#8 ∧ s.lastByte = 0x41#8 then
    { s with lastByte := b, accDX := 0, accDY := 0, mouseOut := s.mouseOut ++ packet s }
  else if b = 0x48#8 then { s with lastByte := b, keyboardEnabled := false }
  else if b = 0x49#8 then { s with lastByte := b, keyboardEnabled := true }
  else { s with lastByte := b }

/-- Every HOST instruction other than the trigger and the keyboard switch stores its byte and does nothing else
(R174, R175, R178 to R185). -/
theorem exec_of_plain_host_byte {i : Instr} {b : Byte} (h : encode i = .host b) (h40 : b ≠ 0x40#8) (h48 : b ≠ 0x48#8)
    (h49 : b ≠ 0x49#8) (s : State) : exec i s = .next { s with lastByte := b } := by
  cases i with
  | hostMsctrlTrigger | hostKbdDisable | hostKbdEnable =>
    cases h
    contradiction
  | key | mods | move | button => cases h
  | hostTriggerArm | hostSpecialIgnored | hostReserved5x | hostRepeatDelay | hostRepeatInterval | hostLedStatus
  | hostOtherFxIgnored | hostHello | hostGoodbye | hostUnrecognized =>
    cases h
    rfl

/-- A host byte completes, whatever it is. -/
theorem exec_host (b : Byte) (s : State) : exec (decode (.host b)) s = .next (hostResult b s) := by
  by_cases h40 : b = 0x40#8
  · subst h40
    by_cases harmed : s.lastByte = 0x41#8
    · exact (execHostMsctrlTrigger_of_armed harmed).trans (by simp [hostResult, harmed])
    · exact (execHostMsctrlTrigger_of_not_armed harmed).trans (by simp [hostResult, harmed])
  · by_cases h48 : b = 0x48#8
    · subst h48
      rfl
    · by_cases h49 : b = 0x49#8
      · subst h49
        rfl
      · have hplain := exec_of_plain_host_byte (decodeHostByte_spec b).2 h40 h48 h49 s
        exact hplain.trans (by simp [hostResult, h40, h48, h49])

section fields
variable (b : Byte) (s : State)

@[simp] theorem hostResult_cfg : (hostResult b s).cfg = s.cfg := by unfold hostResult; split_ifs <;> rfl
@[simp] theorem hostResult_shiftState : (hostResult b s).shiftState = s.shiftState := by
  unfold hostResult; split_ifs <;> rfl
@[simp] theorem hostResult_altLayerState : (hostResult b s).altLayerState = s.altLayerState := by
  unfold hostResult; split_ifs <;> rfl
@[simp] theorem hostResult_prevMods : (hostResult b s).prevMods = s.prevMods := by
  unfold hostResult; split_ifs <;> rfl
@[simp] theorem hostResult_btnL : (hostResult b s).btnL = s.btnL := by unfold hostResult; split_ifs <;> rfl
@[simp] theorem hostResult_btnR : (hostResult b s).btnR = s.btnR := by unfold hostResult; split_ifs <;> rfl
@[simp] theorem hostResult_kbdOut : (hostResult b s).kbdOut = s.kbdOut := by unfold hostResult; split_ifs <;> rfl
@[simp] theorem hostResult_pending : (hostResult b s).pending = s.pending := by
  unfold hostResult; split_ifs <;> rfl
/-- LastByte takes every host byte (R171). -/
@[simp] theorem hostResult_lastByte : (hostResult b s).lastByte = b := by unfold hostResult; split_ifs <;> rfl

theorem hostResult_keyboardEnabled : (hostResult b s).keyboardEnabled =
    if b = 0x48#8 then false else if b = 0x49#8 then true else s.keyboardEnabled := by
  unfold hostResult
  by_cases h40 : b = 0x40#8 ∧ s.lastByte = 0x41#8
  · simp [h40]
  · rw [if_neg h40]
    split_ifs <;> rfl

theorem hostResult_accDX : (hostResult b s).accDX =
    if b = 0x40#8 ∧ s.lastByte = 0x41#8 then 0 else s.accDX := by unfold hostResult; split_ifs <;> rfl
theorem hostResult_accDY : (hostResult b s).accDY =
    if b = 0x40#8 ∧ s.lastByte = 0x41#8 then 0 else s.accDY := by unfold hostResult; split_ifs <;> rfl
theorem hostResult_mouseOut : (hostResult b s).mouseOut =
    if b = 0x40#8 ∧ s.lastByte = 0x41#8 then s.mouseOut ++ packet s else s.mouseOut := by
  unfold hostResult; split_ifs <;> rfl

end fields

/-- Settles O47: the result of a host byte, written out. -/
theorem hostTransaction : Obligations.HostTransaction :=
  fun b s => exec_host b s

/-- Settles O49: each of the five meanings is the one write of LastByte. -/
theorem repeatHelloAndUnlistedBytesStoreOnlyLastByte : Obligations.RepeatHelloAndUnlistedBytesStoreOnlyLastByte :=
  fun _ _ _ => ⟨rfl, rfl, rfl, rfl, rfl⟩

end Sys2Proof.Machine
end

section
/-! PROOFS. The mouse accumulator (42_mouse_accumulator.md) and the packet's arithmetic (43_host_commands.md R191): the
two modes of `add16` on a 16-bit pattern, and the low byte and flags of one axis. -/

namespace Sys2Proof.Machine

/-! The accumulators. -/

/-- `wrap16` does not change the 16-bit pattern of an integer. -/
theorem ofInt_wrap16 (v : Int) : BitVec.ofInt 16 (wrap16 v) = BitVec.ofInt 16 v := by
  have hmod := (wrap16_spec v).2.2
  apply BitVec.eq_of_toNat_eq
  simp only [BitVec.toNat_ofInt]
  omega

/-- Under wrap an accumulator gains the quotient modulo 2^16. -/
theorem accumulate_wrap (acc : Word16) (q : Int) : accumulate .wrap acc q = acc + BitVec.ofInt 16 q := by
  have hadd : accumulate .wrap acc q = BitVec.ofInt 16 (wrap16 (acc.toInt + q)) := rfl
  rw [hadd, ofInt_wrap16, BitVec.ofInt_add, BitVec.ofInt_toInt]

/-- Under saturate it gains the quotient clamped to the signed 16-bit range. -/
theorem toInt_accumulate_saturate (acc : Word16) (q : Int) :
    (accumulate .saturate acc q).toInt = min 32767 (max (-32768) (acc.toInt + q)) :=
  sext16_accumulate .saturate acc q

/-- MOVE inside the interface as one record update. -/
theorem exec_move {s : State} {dx dy : Int} (hvalid : transactionValid s.cfg (.move dx dy) = true)
    (hdivider : 1 ≤ s.cfg.mouseDivider) : exec (.move dx dy) s = .next { s with
      accDX := accumulate s.cfg.acc16Mode s.accDX (tdiv dx s.cfg.mouseDivider)
      accDY := accumulate s.cfg.acc16Mode s.accDY (tdiv dy s.cfg.mouseDivider) } :=
  execMove_of_valid hvalid hdivider

theorem deltaInRange_iff {c : Cfg} {d : Int} :
    deltaInRange c d = true ↔ c.mouseDeltaMin ≤ d ∧ d ≤ c.mouseDeltaMax := by
  simp [deltaInRange]

/-- Settles O43: MOVE adds the motion, whose quotients are the library's truncating ones. -/
theorem moveAccumulatesQuotients : Obligations.MoveAccumulatesQuotients := by
  intro s dx dy hdivider hx₁ hx₂ hy₁ hy₂
  have hvalid : transactionValid s.cfg (.move dx dy) = true := by
    simp [transactionValid, deltaInRange_iff, hx₁, hx₂, hy₁, hy₂]
  refine ⟨_, _, exec_move hvalid hdivider, fun hmode => ?_, fun hmode => ?_⟩
  · rw [hmode, accumulate_wrap, accumulate_wrap, tdiv_eq_tdiv, tdiv_eq_tdiv]
    exact ⟨rfl, rfl⟩
  · rw [hmode, toInt_accumulate_saturate, toInt_accumulate_saturate, tdiv_eq_tdiv, tdiv_eq_tdiv]
    exact ⟨rfl, rfl⟩

/-- Settles O45: the range is the first thing MOVE tests. -/
theorem moveOutsideRangeIsRefused : Obligations.MoveOutsideRangeIsRefused := by
  intro s dx dy hout
  have hrange : (deltaInRange s.cfg dx && deltaInRange s.cfg dy) = false := by
    rw [Bool.eq_false_iff]
    intro hin
    rw [Bool.and_eq_true, deltaInRange_iff, deltaInRange_iff] at hin
    omega
  have hexec : exec (.move dx dy) s = execMove dx dy s := rfl
  simp [hexec, execMove, hrange]

/-- Settles O46: each of the three buttons is its one write, or none. -/
theorem buttonTransaction : Obligations.ButtonTransaction :=
  fun _ _ => ⟨rfl, rfl, rfl⟩

/-! One axis of the packet. -/

/-- The byte sent for an axis agrees with the accumulated value modulo 256 (R191). -/
theorem toInt_trunc8_sub_emod (acc : Word16) : ((trunc8 (sext16 acc)).toInt - acc.toInt) % 256 = 0 := by
  have hbyte : (trunc8 (sext16 acc)).toInt = acc.toInt.bmod 256 := BitVec.toInt_ofInt _
  rw [hbyte, ← Int.emod_eq_emod_iff_emod_sub_eq_zero]
  exact Int.bmod_emod

/-- A value in -128..127 is sent exactly (R191). -/
theorem toInt_trunc8_of_mem_range {acc : Word16} (h : -128 ≤ acc.toInt ∧ acc.toInt ≤ 127) :
    (trunc8 (sext16 acc)).toInt = acc.toInt := by
  have hbyte : (trunc8 (sext16 acc)).toInt = acc.toInt.bmod 256 := BitVec.toInt_ofInt _
  rw [hbyte]
  apply Int.bmod_eq_of_le <;> omega

/-- A value in -128..127 is sent exactly with neither flag of its axis, any other with one of them (R190, R191). -/
theorem axis_exact_or_flagged (acc : Word16) : if -128 ≤ acc.toInt ∧ acc.toInt ≤ 127 then
    (trunc8 (sext16 acc)).toInt = acc.toInt ∧ overflowNegative acc = false ∧ overflowPositive acc = false
    else (overflowNegative acc || overflowPositive acc) = true := by
  split_ifs with h
  · refine ⟨toInt_trunc8_of_mem_range h, ?_, ?_⟩
    · rw [← Bool.not_eq_true, overflowNegative_iff]
      omega
    · rw [← Bool.not_eq_true, overflowPositive_iff]
      omega
  · rw [Bool.or_eq_true, overflowNegative_iff, overflowPositive_iff]
    omega

/-- Settles O53: the two axes, with their flags at their bits of byte 0. -/
theorem packetSendsMotionExactlyOrFlagsIt : Obligations.PacketSendsMotionExactlyOrFlagsIt := by
  intro s
  obtain ⟨h7, h6, h5, h4, -⟩ := packetByte0_bits s.accDX s.accDY s.btnR s.btnL
  refine ⟨_, _, _, rfl, toInt_trunc8_sub_emod s.accDX, toInt_trunc8_sub_emod s.accDY, ?_, ?_⟩
  · rw [h5, h4]
    exact axis_exact_or_flagged s.accDX
  · rw [h7, h6]
    exact axis_exact_or_flagged s.accDY

end Sys2Proof.Machine
end

section
/-! PROOFS. The configuration check and the reset state (10_state.md section 2, 70_reset_and_hazards.md section 1). -/

namespace Sys2Proof.Machine

/-- The search for a repeated keycode finds none exactly in a list without duplicates (R31 (g)). -/
theorem hasDuplicateKey_eq_false_iff (l : List Byte) : hasDuplicateKey l = false ↔ l.Nodup := by
  induction l with
  | nil => simp [hasDuplicateKey]
  | cons k ks ih => simp [hasDuplicateKey, ih]

theorem duplicateKeysOk_iff (c : Cfg) : duplicateKeysOk c = true ↔
    (c.rejectDuplicateKeys = true → (c.forceShiftList.map Prod.fst).Nodup ∧
      (c.forceUnshiftList.map Prod.fst).Nodup ∧ (c.altKeyTable.map Prod.fst).Nodup) := by
  cases h : c.rejectDuplicateKeys with
  | false => simp [duplicateKeysOk, h]
  | true => simp [duplicateKeysOk, h, pairKeys, hasDuplicateKey_eq_false_iff, and_assoc]

theorem deltaRangeOk_iff (c : Cfg) : deltaRangeOk c = true ↔
    -32768 ≤ c.mouseDeltaMin ∧ c.mouseDeltaMin ≤ 0 ∧ 0 ≤ c.mouseDeltaMax ∧ c.mouseDeltaMax ≤ 32767 := by
  simp [deltaRangeOk, and_assoc]

theorem indexZeroOk_iff (c : Cfg) : indexZeroOk c = true ↔ c.scancodeTable[0]? = some 0x00#8 := by
  rw [indexZeroOk, beq_iff_eq, List.head?_eq_getElem?]

/-- The check goes through (a) to (g) and answers none when all of them pass. -/
theorem configCheck_eq_none_iff (c : Cfg) : configCheck c = none ↔
    tableLengthOk c = true ∧ arrayLengthOk c = true ∧ indexZeroOk c = true ∧ dividerOk c = true ∧
      autoRepeatOk c = true ∧ deltaRangeOk c = true ∧ duplicateKeysOk c = true := by
  unfold configCheck
  split_ifs <;> simp_all

/-- Settles O7: each of the seven tests is its condition. -/
theorem configCheckIsItsSevenConditions : Obligations.ConfigCheckIsItsSevenConditions := by
  intro c
  rw [CfgWellFormed, configCheck_eq_none_iff, deltaRangeOk_iff, duplicateKeysOk_iff, indexZeroOk_iff]
  simp [tableLengthOk, arrayLengthOk, dividerOk, autoRepeatOk]

/-- Settles O8: both look at the check first. -/
theorem illFormedConfigIsRefused : Obligations.IllFormedConfigIsRefused := by
  intro s r h
  simp [step, boot, h]

/-- Settles O38: every register R139 speaks of is 0 after reset. -/
theorem resetMeetsModifierInvariant : Obligations.ResetMeetsModifierInvariant :=
  have hreset (c : Cfg) : ModifierConsistent (State.resetWith c) := by
    simp [ModifierConsistent, State.resetWith]
  ⟨hreset referenceCfg, hreset⟩

/-- Settles O57: the record as it is defined, and the seven tests on the reference configuration. -/
theorem resetState : Obligations.ResetState :=
  ⟨fun _ => rfl, rfl, (configCheck_eq_none_iff referenceCfg).mpr ⟨rfl, rfl, rfl, rfl, rfl, rfl, rfl⟩⟩

end Sys2Proof.Machine
end

section
/-! PROOFS. What an instruction can write and what it leaves (10_state.md section 1, 60_exceptions.md section 4), and
one step (10_state.md section 4): its completion, the growth of the streams, the modifier invariant. -/

namespace Sys2Proof.Machine

/-! The frame of an instruction. -/

/-- Settles O14: each instruction by the record it answers. -/
theorem onlyTheListedInstructionsWriteARegister : Obligations.OnlyTheListedInstructionsWriteARegister := by
  intro i s t h
  cases i with
  | key k p =>
    obtain ⟨es, -, rfl⟩ := execKey_eq_next h
    simp
  | mods mask =>
    cases (execMods_eq mask s).symm.trans h
    simp
  | move dx dy =>
    obtain ⟨-, -, rfl⟩ := execMove_eq_next h
    simp [addMotion]
  | button which down =>
    cases which <;> cases h <;> simp
  | hostMsctrlTrigger =>
    by_cases harmed : s.lastByte = 0x41#8
    · cases (execHostMsctrlTrigger_of_armed harmed).symm.trans h
      simp [Instr.hostClass]
    · cases (execHostMsctrlTrigger_of_not_armed harmed).symm.trans h
      simp [Instr.hostClass]
  | hostTriggerArm | hostSpecialIgnored | hostKbdDisable | hostKbdEnable | hostReserved5x | hostRepeatDelay
  | hostRepeatInterval | hostLedStatus | hostOtherFxIgnored | hostHello | hostGoodbye | hostUnrecognized =>
    cases h
    simp [Instr.hostClass]

/-- Only MODS writes a modifier register. -/
theorem exec_keeps_modifiers {i : Instr} {s t : State} (hmods : ∀ m, i ≠ .mods m) (h : exec i s = .next t) :
    t.shiftState = s.shiftState ∧ t.altLayerState = s.altLayerState ∧ t.prevMods = s.prevMods := by
  obtain ⟨hwrites, -⟩ := onlyTheListedInstructionsWriteARegister i s t h
  by_contra hne
  obtain ⟨m, hm⟩ := hwrites (by tauto)
  exact hmods m hm

/-- A USB-side transaction leaves what the host side writes (R209). -/
theorem exec_usb_keeps_host_side {t : Transaction} {s s' : State} (husb : t.source = .usb)
    (h : exec (decode t) s = .next s') :
    s'.keyboardEnabled = s.keyboardEnabled ∧ s'.lastByte = s.lastByte ∧ s'.mouseOut = s.mouseOut := by
  cases t with
  | host b => cases husb
  | key k p =>
    obtain ⟨es, -, rfl⟩ := execKey_eq_next h
    exact ⟨rfl, rfl, rfl⟩
  | mods mask =>
    cases (execMods_eq mask s).symm.trans h
    exact ⟨rfl, rfl, rfl⟩
  | move dx dy =>
    obtain ⟨-, -, rfl⟩ := execMove_eq_next h
    exact ⟨rfl, rfl, rfl⟩
  | button which down =>
    cases which <;> cases h <;> exact ⟨rfl, rfl, rfl⟩

/-- The state a host byte answers is `hostResult`. -/
theorem exec_host_eq_next {b : Byte} {s s' : State} (h : exec (decode (.host b)) s = .next s') :
    s' = hostResult b s := by
  cases (exec_host b s).symm.trans h
  rfl

/-! One step. -/

section step
variable {s s' : State} {t : Transaction} {rest : List Transaction}

theorem step_of_pending (hc : CfgWellFormed s.cfg) (hp : s.pending = t :: rest) :
    step s = exec (decode t) { s with pending := rest } := by
  rw [step, hc, takeTransaction_cons hp]

theorem exec_of_step (hp : s.pending = t :: rest) (h : step s = .next s') :
    exec (decode t) { s with pending := rest } = .next s' := by
  obtain ⟨hc, -⟩ := step_eq_next h
  rw [← step_of_pending hc hp, h]

/-- Every transaction with valid fields has a next state (R200). -/
theorem exec_completes (hc : CfgWellFormed s.cfg) (hv : transactionValid s.cfg t = true) :
    ∃ s', exec (decode t) s = .next s' := by
  cases t with
  | host b => exact ⟨_, exec_host b s⟩
  | key k p =>
    obtain ⟨es, hexec⟩ := execKey_completes hc k p
    exact ⟨_, hexec⟩
  | mods mask => exact ⟨_, execMods_eq mask s⟩
  | move dx dy =>
    obtain ⟨-, -, hdivider⟩ := arrays_of_wellFormed hc
    exact ⟨_, exec_move hv hdivider⟩
  | button which down => cases which <;> exact ⟨_, rfl⟩

end step

/-- A report has at most one event for each of six bits (R140). -/
theorem modifierEvents_length_le (c : Cfg) (q m : Byte) : (modifierEvents c q m).length ≤ 6 := by
  rw [modsEventCount c q m]
  exact List.length_filter_le _ _

/-- A transaction appends at most 6 keyboard bytes (R113, R140). -/
theorem exec_appends_kbdOut {t : Transaction} {s s' : State} (hc : CfgWellFormed s.cfg)
    (h : exec (decode t) s = .next s') : ∃ bs, s'.kbdOut = s.kbdOut ++ bs ∧ bs.length ≤ 6 := by
  cases t with
  | host b =>
    obtain rfl := exec_host_eq_next h
    exact ⟨[], by simp, by simp⟩
  | key k p =>
    obtain ⟨es, hes, rfl⟩ := execKey_eq_next h
    obtain ⟨es', hes', hcount, -⟩ := keyEventCount s.cfg s.altLayerState s.shiftState k p hc
    obtain rfl : es = es' := Option.some.inj (hes.symm.trans hes')
    have hbytes := framedBytes_length_le .key s es
    exact ⟨_, rfl, by omega⟩
  | mods mask =>
    cases (execMods_eq mask s).symm.trans h
    exact ⟨_, rfl, (framedBytes_length_le _ _ _).trans (modifierEvents_length_le _ _ _)⟩
  | move dx dy =>
    obtain ⟨-, -, rfl⟩ := execMove_eq_next h
    exact ⟨[], by simp [addMotion], by simp⟩
  | button which down =>
    cases which <;> cases h <;> exact ⟨[], by simp, by simp⟩

/-- Settles O5: the step of a delivered input, and the decoding of what the instruction is encoded as. -/
theorem stepPerformsOldestTransaction : Obligations.StepPerformsOldestTransaction := by
  intro s i rest hc hwf hp
  rw [step_of_pending hc hp, decodeInvertsEncode i hwf]

/-- Settles O6: there is no transaction to take. -/
theorem stepWithoutInputChangesNothing : Obligations.StepWithoutInputChangesNothing := by
  intro s hc hp
  rw [step, hc, takeTransaction_nil hp]

/-- Settles O9: the oldest transaction completes, and no transaction writes the configuration or the inputs. -/
theorem admissibleStepCompletes : Obligations.AdmissibleStepCompletes := by
  rintro s t rest ⟨hc, hvalid⟩ hp
  rw [InputsValid, hp, List.forall_mem_cons] at hvalid
  obtain ⟨hv, hrest⟩ := hvalid
  obtain ⟨s', hexec⟩ := exec_completes (s := { s with pending := rest }) hc hv
  obtain ⟨hcfg, hpending⟩ := exec_keeps_cfg_and_pending hexec
  dsimp only at hcfg hpending
  refine ⟨s', (step_of_pending hc hp).trans hexec, hpending, ?_, ?_⟩
  · rwa [hcfg]
  · rwa [InputsValid, hpending, hcfg]

/-- Settles O37: MODS writes all three registers together, and nothing else writes any of them. -/
theorem stepKeepsModifierInvariant : Obligations.StepKeepsModifierInvariant := by
  intro s s' hs h
  obtain ⟨-, ⟨-, rfl⟩ | ⟨t, rest, -, hexec⟩⟩ := step_eq_next h
  · exact hs
  · by_cases hmods : ∃ m, decode t = .mods m
    · obtain ⟨m, hm⟩ := hmods
      rw [hm] at hexec
      exact execMods_keeps_consistent (s := { s with pending := rest }) hs hexec
    · obtain ⟨hshift, halt, hprev⟩ := exec_keeps_modifiers (not_exists.mp hmods) hexec
      rwa [ModifierConsistent, hshift, halt, hprev, (exec_keeps_cfg_and_pending hexec).1]

/-- Settles O12: the keyboard bytes are framed events, and the mouse bytes the packet of an armed trigger. -/
theorem outputStreamsOnlyGrow : Obligations.OutputStreamsOnlyGrow := by
  intro s s' h
  obtain ⟨hc, ⟨-, rfl⟩ | ⟨t, rest, -, hexec⟩⟩ := step_eq_next h
  · exact ⟨⟨[], by simp, by simp⟩, ⟨[], by simp, by simp⟩⟩
  · refine ⟨exec_appends_kbdOut (s := { s with pending := rest }) hc hexec, ?_⟩
    cases ht : t.source with
    | usb =>
      obtain ⟨-, -, hmouse⟩ := exec_usb_keeps_host_side ht hexec
      exact ⟨[], by simp [hmouse], by simp⟩
    | host =>
      cases t with
      | host b =>
        rw [exec_host_eq_next hexec, hostResult_mouseOut]
        split_ifs
        · exact ⟨_, rfl, .inr (packet_length _)⟩
        · exact ⟨[], by simp, by simp⟩
      | key | mods | move | button => cases ht

/-- Settles O13: a USB-side transaction leaves the mouse stream, and a host byte appends the packet or nothing. -/
theorem mouseStreamGrowsOnlyOnTrigger : Obligations.MouseStreamGrowsOnlyOnTrigger := by
  intro s s' t rest hp h
  have hexec := exec_of_step hp h
  cases t with
  | host b =>
    rw [exec_host_eq_next hexec, hostResult_mouseOut]
    simp [packet]
  | key | mods | move | button =>
    obtain ⟨-, -, hmouse⟩ := exec_usb_keeps_host_side rfl hexec
    simp [hmouse]

/-- Settles O15: the frame of a USB-side transaction, and the fields of a host byte's result. -/
theorem eachSideLeavesTheOthersStateAlone : Obligations.EachSideLeavesTheOthersStateAlone := by
  intro s s' t rest hp h
  have hexec := exec_of_step hp h
  refine ⟨fun husb => exec_usb_keeps_host_side (s := { s with pending := rest }) husb hexec, fun hhost => ?_⟩
  cases t with
  | host b =>
    obtain rfl := exec_host_eq_next hexec
    refine ⟨by simp, by simp, by simp, by simp, by simp, by simp, ?_⟩
    rw [hostResult_accDX, hostResult_accDY, hostResult_mouseOut]
    split_ifs with harmed
    · exact fun _ => ⟨rfl, rfl, rfl⟩
    · simp
  | key | mods | move | button => cases hhost

end Sys2Proof.Machine
end

section
/-! PROOFS. Runs (70_reset_and_hazards.md sections 3 and 4): one transaction of a run at a time, what a whole run
keeps, and the runs of the spec's hazards. -/

namespace Sys2Proof.Machine

section run
variable {s : State}

/-! The first transaction of a run. -/

/-- The inputs a state holds do not matter to a run of given ones: a run performs its first transaction, which leaves
them alone, and goes on. -/
theorem runFrom_cons_next {s' : State} {t : Transaction} {ts : List Transaction} (hc : CfgWellFormed s.cfg)
    (h : exec (decode t) (s.setPending ts) = .next (s'.setPending ts)) : runFrom s (t :: ts) = runFrom s' ts :=
  runFrom_cons (s' := s'.setPending ts) hc h rfl

theorem hostResult_setPending (b : Byte) (s : State) (ts : List Transaction) :
    hostResult b (s.setPending ts) = (hostResult b s).setPending ts := by
  unfold hostResult State.setPending
  dsimp only
  split_ifs <;> rfl

theorem runFrom_host (hc : CfgWellFormed s.cfg) (b : Byte) (ts : List Transaction) :
    runFrom s (.host b :: ts) = runFrom (hostResult b s) ts := by
  apply runFrom_cons_next hc
  rw [exec_host, hostResult_setPending]

theorem runFrom_key {k : Byte} {p : EventType} {es : List Event} (hc : CfgWellFormed s.cfg)
    (hes : remap s.cfg s.altLayerState s.shiftState k p = some es) (ts : List Transaction) :
    runFrom s (.key k p :: ts) = runFrom { s with kbdOut := s.kbdOut ++ framedBytes .key s es } ts :=
  runFrom_cons_next hc (execKey_of_remap (s := s.setPending ts) hes)

theorem runFrom_mods (hc : CfgWellFormed s.cfg) (m : Byte) (ts : List Transaction) :
    runFrom s (.mods m :: ts) = runFrom { s with
      prevMods := m, altLayerState := nextAltLayerState s m, shiftState := nextShiftState s m,
      kbdOut := s.kbdOut ++ framedBytes .mod s (modifierEvents s.cfg s.prevMods m) } ts :=
  runFrom_cons_next hc (execMods_eq m (s.setPending ts))

theorem runFrom_move {dx dy : Int} (hc : CfgWellFormed s.cfg) (hv : transactionValid s.cfg (.move dx dy) = true)
    (ts : List Transaction) : runFrom s (.move dx dy :: ts) = runFrom (addMotion dx dy s) ts := by
  obtain ⟨-, -, hdivider⟩ := arrays_of_wellFormed hc
  exact runFrom_cons_next hc (execMove_of_valid (s := s.setPending ts) hv hdivider)

/-- A valid first transaction completes under the same configuration, and the run goes on from its next state. -/
theorem runFrom_cons_completes {t : Transaction} (hc : CfgWellFormed s.cfg) (hv : transactionValid s.cfg t = true)
    (ts : List Transaction) : ∃ s', exec (decode t) (s.setPending ts) = .next s' ∧ s'.cfg = s.cfg ∧
      runFrom s (t :: ts) = runFrom s' ts := by
  obtain ⟨s', hexec⟩ := exec_completes (s := s.setPending ts) hc hv
  obtain ⟨hcfg, hpending⟩ := exec_keeps_cfg_and_pending hexec
  exact ⟨s', hexec, hcfg, runFrom_cons hc hexec hpending⟩

/-! What a run keeps. -/

/-- A property that the transactions of `ts` keep, and that does not look at the delivered inputs, holds after them,
and the run goes on from there. -/
theorem runFrom_append {P : State → Prop} {ts : List Transaction} (hpend : ∀ s q, P s → P (s.setPending q))
    (hstep : ∀ t ∈ ts, ∀ s s', P s → exec (decode t) s = .next s' → P s') (hc : CfgWellFormed s.cfg)
    (hv : ∀ t ∈ ts, transactionValid s.cfg t = true) (hs : P s) (us : List Transaction) :
    ∃ s', s'.cfg = s.cfg ∧ P s' ∧ runFrom s (ts ++ us) = runFrom s' us := by
  induction ts generalizing s with
  | nil => exact ⟨s, rfl, hs, rfl⟩
  | cons t ts ih =>
    rw [List.forall_mem_cons] at hstep hv
    obtain ⟨s', hexec, hcfg, hrun⟩ := runFrom_cons_completes hc hv.1 (ts ++ us)
    have hs' : P s' := hstep.1 _ _ (hpend _ _ hs) hexec
    obtain ⟨s'', hcfg'', hs'', hrun''⟩ := ih hstep.2 (hcfg ▸ hc) (hcfg ▸ hv.2) hs'
    exact ⟨s'', hcfg''.trans hcfg, hs'', hrun.trans hrun''⟩

/-- A run of valid transactions completes with no input left, and keeps what its transactions keep. -/
theorem runFrom_completes {P : State → Prop} {ts : List Transaction} (hpend : ∀ s q, P s → P (s.setPending q))
    (hstep : ∀ t ∈ ts, ∀ s s', P s → exec (decode t) s = .next s' → P s') (hc : CfgWellFormed s.cfg)
    (hv : ∀ t ∈ ts, transactionValid s.cfg t = true) (hs : P s) :
    ∃ s', runFrom s ts = .next s' ∧ s'.pending = [] ∧ P s' := by
  obtain ⟨s', -, hs', hrun⟩ := runFrom_append hpend hstep hc hv hs []
  rw [List.append_nil, runFrom_nil] at hrun
  exact ⟨_, hrun, rfl, hpend _ _ hs'⟩

end run

/-- Settles O10: every valid transaction completes, so the run does, with no input left. -/
theorem admissibleRunPerformsEveryInput : Obligations.AdmissibleRunPerformsEveryInput := by
  rintro s ⟨hc, hvalid⟩
  obtain ⟨s', hrun, hpending, -⟩ :=
    runFrom_completes (P := fun _ => True) (fun _ _ h => h) (fun _ _ _ _ h _ => h) hc hvalid trivial
  have hrun' : runInputs s = .next s' := hrun
  refine ⟨⟨s', hrun'⟩, fun t ht => ?_⟩
  cases hrun'.symm.trans ht
  exact hpending

/-! MOVEs. -/

theorem quotientSum_cons (divider : Nat) (d : Int) (ds : List Int) :
    quotientSum divider (d :: ds) = tdiv d divider + quotientSum divider ds := by
  simp [quotientSum]

theorem addMotion_accDX_of_wrap {s : State} (hwrap : s.cfg.acc16Mode = .wrap) (dx dy : Int) :
    (addMotion dx dy s).accDX = s.accDX + BitVec.ofInt 16 (tdiv dx s.cfg.mouseDivider) := by
  simp [addMotion, hwrap, accumulate_wrap]

theorem addMotion_accDY_of_wrap {s : State} (hwrap : s.cfg.acc16Mode = .wrap) (dx dy : Int) :
    (addMotion dx dy s).accDY = s.accDY + BitVec.ofInt 16 (tdiv dy s.cfg.mouseDivider) := by
  simp [addMotion, hwrap, accumulate_wrap]

/-- Settles O44, by induction on the MOVEs. -/
theorem accumulatorHoldsSumOfQuotients : Obligations.AccumulatorHoldsSumOfQuotients := by
  intro s ds hc hwrap hv
  induction ds generalizing s with
  | nil => exact ⟨_, rfl, by simp [quotientSum], by simp [quotientSum]⟩
  | cons d ds ih =>
    rw [List.forall_mem_cons] at hv
    obtain ⟨t, hrun, hx, hy⟩ := ih (addMotion d.1 d.2 s) hc hwrap hv.2
    refine ⟨t, (runFrom_move hc hv.1 _).trans hrun, ?_, ?_⟩
    · rw [hx, addMotion_accDX_of_wrap hwrap, List.map_cons, quotientSum_cons, BitVec.ofInt_add, BitVec.add_assoc]
      rfl
    · rw [hy, addMotion_accDY_of_wrap hwrap, List.map_cons, quotientSum_cons, BitVec.ofInt_add, BitVec.add_assoc]
      rfl

/-! The mouse frame. -/

/-- Settles O56: the arm byte and the armed trigger. -/
theorem pollEmitsOneFrame : Obligations.PollEmitsOneFrame := by
  intro s hc
  rw [expandPseudo, runFrom_host hc, runFrom_host (by simpa using hc), runFrom_nil]
  rfl

/-- The arm byte was the last host byte, and the mouse stream is still `out`. -/
def ArmedWith (out : List Byte) (s : State) : Prop := s.lastByte = 0x41#8 ∧ s.mouseOut = out

/-- Valid USB-side transactions after an arm byte leave the trigger armed (R171). -/
theorem runFrom_usb_keeps_armed {s : State} {us : List Transaction} (hc : CfgWellFormed s.cfg)
    (hus : ∀ u ∈ us, u.source = .usb ∧ transactionValid s.cfg u = true) (vs : List Transaction) :
    ∃ s', CfgWellFormed s'.cfg ∧ ArmedWith s.mouseOut s' ∧
      runFrom s (.host 0x41#8 :: us ++ vs) = runFrom s' vs := by
  have hstep : ∀ u ∈ us, ∀ r r', ArmedWith s.mouseOut r → exec (decode u) r = .next r' → ArmedWith s.mouseOut r' := by
    rintro u hu r r' ⟨hlast, hout⟩ hexec
    obtain ⟨-, hlast', hout'⟩ := exec_usb_keeps_host_side (hus u hu).1 hexec
    exact ⟨hlast'.trans hlast, hout'.trans hout⟩
  have harm : ArmedWith s.mouseOut (hostResult 0x41#8 s) := ⟨by simp, by simp [hostResult_mouseOut]⟩
  obtain ⟨s', hcfg, harmed, hrun⟩ := runFrom_append (s := hostResult 0x41#8 s) (us := vs) (fun _ _ h => h) hstep
    (by simpa using hc) (by simpa using fun u hu => (hus u hu).2) harm
  rw [hostResult_cfg] at hcfg
  exact ⟨s', hcfg ▸ hc, harmed, (runFrom_host hc _ _).trans hrun⟩

/-- Settles O55: the trigger finds the arm byte past the USB side, but not past another host byte. -/
theorem frameNeedsAdjacentHostBytes : Obligations.FrameNeedsAdjacentHostBytes := by
  intro s b us hc hus
  constructor
  · obtain ⟨s', hc', ⟨hlast, hout⟩, hrun⟩ := runFrom_usb_keeps_armed hc hus [.host 0x40#8]
    rw [runFrom_host hc', runFrom_nil] at hrun
    refine ⟨_, packet s', hrun, packet_length s', ?_⟩
    simp [hostResult_mouseOut, hlast, hout]
  · intro h41 h40
    obtain ⟨s', hc', ⟨-, hout⟩, hrun⟩ := runFrom_usb_keeps_armed hc hus [.host b, .host 0x40#8]
    rw [runFrom_host hc', runFrom_host (by simpa using hc'), runFrom_nil] at hrun
    refine ⟨_, hrun, ?_⟩
    simp [hostResult_mouseOut, h41, h40, hout]

/-! The Shift hazards. -/

/-- Settles O42: three reports of one event each, and the OR of the Shift bits after the last. -/
theorem twoShiftKeysLeaveHostUnshifted : Obligations.TwoShiftKeysLeaveHostUnshifted := by
  intro s hc hpolicy hon hsc hprev
  have hdown : modifierEvents s.cfg 0x00#8 0x02#8 = [⟨s.cfg.shiftSc, .press⟩] := rfl
  have hright : modifierEvents s.cfg 0x02#8 0x22#8 = [⟨s.cfg.shiftSc, .press⟩] := rfl
  have hup : modifierEvents s.cfg 0x22#8 0x02#8 = [⟨s.cfg.shiftSc, .release⟩] := rfl
  rw [runFrom_mods hc, runFrom_mods (by exact hc), runFrom_mods (by exact hc), runFrom_nil]
  refine ⟨_, rfl, ?_, ?_⟩
  · simp [nextShiftState_eq, hpolicy]
  · simp [hprev, hdown, hright, hup, framedBytes_cons_of_nonzero, hon, hsc, frameByte]

/-- Settles O31: the force-shift press, the report of Shift, and the release on the shifted branch. -/
theorem releaseIsMappedUnderTheStateAtRelease : Obligations.ReleaseIsMappedUnderTheStateAtRelease := by
  intro s k v sc hc hon halt hshift hprev hshiftSc hv hsc hk hpair hnone ho hentry
  have hpress : remap s.cfg s.altLayerState s.shiftState k .press = some (forceShiftEvents s.cfg v .press) := by
    rw [halt, hshift, remap_unshifted hk, unshiftedEvents_of_pair hpair]
  have hdown : modifierEvents s.cfg 0x00#8 0x02#8 = [⟨s.cfg.shiftSc, .press⟩] := rfl
  have halt' (t : State) (h : t.prevMods = 0x00#8) : nextAltLayerState t 0x02#8 = t.altLayerState := by
    simp [nextAltLayerState_eq, h]
  have hshift' (t : State) (h : t.prevMods = 0x00#8) : nextShiftState t 0x02#8 = true := by
    simp [nextShiftState_eq, h]
  have hrelease : remap s.cfg false true k .release = some [⟨sc, .release⟩] := by
    rw [remap_shifted hk, shiftedEvents_of_no_pair hnone, overrideEvents_of_entries ho hentry, if_pos rfl]
  rw [runFrom_key hc hpress, runFrom_mods (by exact hc), halt' _ (by exact hprev), hshift' _ (by exact hprev)]
  dsimp only
  rw [halt, runFrom_key (by exact hc) (by exact hrelease), runFrom_nil]
  refine ⟨_, rfl, ?_⟩
  simp [hprev, hdown, forceShiftEvents, framedBytes_cons_of_nonzero, hon, hshiftSc, hv, hsc, frameByte]

/-! The disabled keyboard. -/

/-- The keyboard is disabled under `all_keyboard_output`, and the keyboard stream is still `out`. -/
def SilentWith (out : List Byte) (s : State) : Prop :=
  s.keyboardEnabled = false ∧ s.cfg.kbdGateScope = .allKeyboardOutput ∧ s.kbdOut = out

/-- Everything but the byte 0x49 leaves a disabled keyboard disabled and silent (R242). -/
theorem exec_keeps_silent {t : Transaction} {out : List Byte} {s s' : State} (ht : t ≠ .host 0x49#8)
    (hs : SilentWith out s) (h : exec (decode t) s = .next s') : SilentWith out s' := by
  obtain ⟨hoff, hscope, hout⟩ := hs
  have hsilent (o : Origin) (es : List Event) : framedBytes o s es = [] :=
    framedBytes_of_disabled hoff (by simp [hscope]) es
  cases t with
  | host b =>
    obtain rfl := exec_host_eq_next h
    have h49 : b ≠ 0x49#8 := fun hb => ht (congrArg Transaction.host hb)
    exact ⟨by simp [hostResult_keyboardEnabled, h49, hoff], by simpa using hscope, by simpa using hout⟩
  | key k p =>
    obtain ⟨es, -, rfl⟩ := execKey_eq_next h
    exact ⟨hoff, hscope, by simp [hsilent, hout]⟩
  | mods mask =>
    cases (execMods_eq mask s).symm.trans h
    exact ⟨hoff, hscope, by simp [hsilent, hout]⟩
  | move dx dy =>
    obtain ⟨-, -, rfl⟩ := execMove_eq_next h
    exact ⟨hoff, hscope, hout⟩
  | button which down =>
    cases which <;> cases h <;> exact ⟨hoff, hscope, hout⟩

/-- Settles O60: silence is kept by every input of the run. -/
theorem disabledKeyboardStaysSilent : Obligations.DisabledKeyboardStaysSilent := by
  rintro s ⟨hc, hvalid⟩ hoff hscope h49
  have hstep : ∀ t ∈ s.pending, ∀ r r', SilentWith s.kbdOut r → exec (decode t) r = .next r' →
      SilentWith s.kbdOut r' :=
    fun t ht _ _ hr hexec => exec_keeps_silent (fun h => h49 (h ▸ ht)) hr hexec
  obtain ⟨t, hrun, -, hoff', -, hout⟩ :=
    runFrom_completes (fun _ _ h => h) hstep hc hvalid ⟨hoff, hscope, rfl⟩
  exact ⟨t, hrun, hout, hoff'⟩

end Sys2Proof.Machine
end

section
/-! PROOFS. The two channels do not meet (20_memory.md section 4, 60_exceptions.md section 4): a run and the run of
some of its inputs, side by side; and the polling loop that orders the inputs (60_exceptions.md section 2). -/

namespace Sys2Proof.Machine

/-- Two runs side by side, the second of only the inputs to keep: a relation that a kept input carries from a pair of
states to a pair, and that an input left out keeps on the first state alone, holds at the end of both. -/
theorem runFrom_filter_related {keep : Transaction → Bool} {R : State → State → Prop}
    (hcfg : ∀ s u, R s u → u.cfg = s.cfg) (hpend : ∀ s u p q, R s u → R (s.setPending p) (u.setPending q))
    (hkept : ∀ t s u s' u', keep t = true → R s u → exec (decode t) s = .next s' → exec (decode t) u = .next u' →
      R s' u')
    (hleft : ∀ t s u s', keep t = false → R s u → exec (decode t) s = .next s' → R s' u)
    {ts : List Transaction} {s u : State} (hsu : R s u) (hc : CfgWellFormed s.cfg)
    (hv : ∀ t ∈ ts, transactionValid s.cfg t = true) :
    ∃ s' u', runFrom s ts = .next s' ∧ runFrom u (ts.filter keep) = .next u' ∧ R s' u' := by
  induction ts generalizing s u with
  | nil => exact ⟨_, _, rfl, rfl, hpend _ _ _ _ hsu⟩
  | cons t ts ih =>
    rw [List.forall_mem_cons] at hv
    obtain ⟨hvt, hvts⟩ := hv
    obtain ⟨s', hexec, hcfg', hrun⟩ := runFrom_cons_completes hc hvt ts
    rw [hrun]
    rw [← hcfg'] at hvts
    cases hk : keep t with
    | true =>
      have hcu : u.cfg = s.cfg := hcfg _ _ hsu
      obtain ⟨u', hexecu, -, hrunu⟩ := runFrom_cons_completes (hcu ▸ hc) (hcu ▸ hvt) (ts.filter keep)
      rw [List.filter_cons_of_pos hk, hrunu]
      exact ih (hkept t _ _ s' u' hk (hpend _ _ _ _ hsu) hexec hexecu) (hcfg' ▸ hc) hvts
    | false =>
      rw [List.filter_cons_of_neg (by simp [hk])]
      exact ih (hleft t _ _ s' hk (hpend _ _ _ u.pending hsu) hexec) (hcfg' ▸ hc) hvts

/-! The mouse side. -/

/-- The two states agree on the configuration, the mouse stream and the registers the mouse side reads. -/
structure MouseSideEq (s u : State) : Prop where
  cfg : u.cfg = s.cfg
  mouseOut : u.mouseOut = s.mouseOut
  accDX : u.accDX = s.accDX
  accDY : u.accDY = s.accDY
  btnL : u.btnL = s.btnL
  btnR : u.btnR = s.btnR
  lastByte : u.lastByte = s.lastByte

/-- MOVE, BUTTON and the host bytes act alike on states with the same mouse side. -/
theorem MouseSideEq.of_mouseInput {t : Transaction} {s u s' u' : State} (ht : mouseInput t = true)
    (h : MouseSideEq s u) (hs : exec (decode t) s = .next s') (hu : exec (decode t) u = .next u') :
    MouseSideEq s' u' := by
  obtain ⟨hcfg, hout, hx, hy, hleft, hright, hlast⟩ := h
  cases t with
  | key | mods => cases ht
  | move dx dy =>
    obtain ⟨-, -, rfl⟩ := execMove_eq_next hs
    obtain ⟨-, -, rfl⟩ := execMove_eq_next hu
    constructor <;> simp [addMotion, hcfg, hout, hx, hy, hleft, hright, hlast]
  | button which down =>
    cases which <;> cases hs <;> cases hu <;> constructor <;> simp [hcfg, hout, hx, hy, hleft, hright, hlast]
  | host b =>
    obtain rfl := exec_host_eq_next hs
    obtain rfl := exec_host_eq_next hu
    have hpacket : packet u = packet s := by simp [packet, hx, hy, hleft, hright]
    constructor <;>
      simp [hostResult_mouseOut, hostResult_accDX, hostResult_accDY, hcfg, hout, hx, hy, hleft, hright, hlast,
        hpacket]

/-- KEY and MODS leave the mouse side. -/
theorem MouseSideEq.of_keyboardRecord {t : Transaction} {s u s' : State} (ht : mouseInput t = false)
    (h : MouseSideEq s u) (hs : exec (decode t) s = .next s') : MouseSideEq s' u := by
  cases t with
  | key k p =>
    obtain ⟨es, -, rfl⟩ := execKey_eq_next hs
    exact { h with }
  | mods mask =>
    cases (execMods_eq mask s).symm.trans hs
    exact { h with }
  | move | button | host => cases ht

/-- Settles O58: the runs side by side, with the mouse sides equal. -/
theorem mouseChannelIgnoresKeyboardInputs : Obligations.MouseChannelIgnoresKeyboardInputs := by
  rintro s ⟨hc, hvalid⟩
  obtain ⟨t, u, hrun, hrun', h⟩ := runFrom_filter_related (R := MouseSideEq) (fun _ _ h => h.cfg)
    (fun _ _ _ _ h => { h with }) (fun _ _ _ _ _ => MouseSideEq.of_mouseInput)
    (fun _ _ _ _ => MouseSideEq.of_keyboardRecord) (s := s) ⟨rfl, rfl, rfl, rfl, rfl, rfl, rfl⟩ hc hvalid
  exact ⟨t, u, hrun, hrun', h.mouseOut.symm, h.accDX.symm, h.accDY.symm, h.btnL.symm, h.btnR.symm, h.lastByte.symm⟩

/-! The keyboard side. -/

/-- The two states agree on the configuration, the keyboard stream and the registers the keyboard side reads. -/
structure KeyboardSideEq (s u : State) : Prop where
  cfg : u.cfg = s.cfg
  kbdOut : u.kbdOut = s.kbdOut
  shiftState : u.shiftState = s.shiftState
  altLayerState : u.altLayerState = s.altLayerState
  prevMods : u.prevMods = s.prevMods
  keyboardEnabled : u.keyboardEnabled = s.keyboardEnabled

/-- KEY, MODS and the keyboard switch act alike on states with the same keyboard side. -/
theorem KeyboardSideEq.of_keyboardInput {t : Transaction} {s u s' u' : State} (ht : keyboardInput t = true)
    (h : KeyboardSideEq s u) (hs : exec (decode t) s = .next s') (hu : exec (decode t) u = .next u') :
    KeyboardSideEq s' u' := by
  obtain ⟨hcfg, hout, hshift, halt, hprev, hon⟩ := h
  have hbytes := framedBytes_congr hcfg hon
  cases t with
  | key k p =>
    obtain ⟨es, hes, rfl⟩ := execKey_eq_next hs
    obtain ⟨es', hes', rfl⟩ := execKey_eq_next hu
    rw [hcfg, halt, hshift, hes] at hes'
    cases hes'
    constructor <;> simp [hcfg, hout, hshift, halt, hprev, hon, hbytes]
  | mods mask =>
    cases (execMods_eq mask s).symm.trans hs
    cases (execMods_eq mask u).symm.trans hu
    constructor <;> simp [nextAltLayerState, nextShiftState, hcfg, hout, hshift, halt, hprev, hon, hbytes]
  | move | button => cases ht
  | host b =>
    obtain rfl := exec_host_eq_next hs
    obtain rfl := exec_host_eq_next hu
    constructor <;> simp [hostResult_keyboardEnabled, hcfg, hout, hshift, halt, hprev, hon]

/-- MOVE, BUTTON and the host bytes other than the keyboard switch leave the keyboard side. -/
theorem KeyboardSideEq.of_otherInput {t : Transaction} {s u s' : State} (ht : keyboardInput t = false)
    (h : KeyboardSideEq s u) (hs : exec (decode t) s = .next s') : KeyboardSideEq s' u := by
  cases t with
  | key | mods => cases ht
  | move dx dy =>
    obtain ⟨-, -, rfl⟩ := execMove_eq_next hs
    exact { h with }
  | button which down =>
    cases which <;> cases hs <;> exact { h with }
  | host b =>
    obtain rfl := exec_host_eq_next hs
    obtain ⟨h48, h49⟩ : b ≠ 0x48#8 ∧ b ≠ 0x49#8 := by simpa [keyboardInput] using ht
    obtain ⟨hcfg, hout, hshift, halt, hprev, hon⟩ := h
    constructor <;> simp [hostResult_keyboardEnabled, h48, h49, hcfg, hout, hshift, halt, hprev, hon]

/-- Settles O59: the runs side by side, with the keyboard sides equal. -/
theorem keyboardChannelIgnoresMouseInputs : Obligations.KeyboardChannelIgnoresMouseInputs := by
  rintro s ⟨hc, hvalid⟩
  obtain ⟨t, u, hrun, hrun', h⟩ := runFrom_filter_related (R := KeyboardSideEq) (fun _ _ h => h.cfg)
    (fun _ _ _ _ h => { h with }) (fun _ _ _ _ _ => KeyboardSideEq.of_keyboardInput)
    (fun _ _ _ _ => KeyboardSideEq.of_otherInput) (s := s) ⟨rfl, rfl, rfl, rfl, rfl, rfl⟩ hc hvalid
  exact ⟨t, u, hrun, hrun', h.kbdOut.symm, h.shiftState.symm, h.altLayerState.symm, h.prevMods.symm,
    h.keyboardEnabled.symm⟩

/-! The polling loop (R204, R205). -/

/-- The pass that delivers one given input. -/
def singlePass : Transaction → PollPass
  | .host b => ⟨[], [b]⟩
  | t => ⟨[t], []⟩

theorem singlePass_spec (t : Transaction) : (singlePass t).wellFormed = true ∧ (singlePass t).inputs = [t] := by
  cases t with
  | host | key | mods | move | button => exact ⟨rfl, rfl⟩

/-- A well-formed pass delivers its USB part and its host part, each in its order. -/
theorem inputs_filter_source {p : PollPass} (hp : p.wellFormed = true) :
    p.inputs.filter (fun t => t.source == .usb) = p.usb ∧
    p.inputs.filter (fun t => t.source == .host) = p.host.map Transaction.host := by
  have husb : ∀ t ∈ p.usb, t.source = .usb := by simpa [PollPass.wellFormed] using hp
  have hhost : ∀ t ∈ p.host.map Transaction.host, t.source = .host := by
    simp [Transaction.source, Transaction.port, Port.source]
  constructor
  · rw [PollPass.inputs, List.filter_append, List.filter_eq_self.mpr, List.filter_eq_nil_iff.mpr, List.append_nil]
    · exact fun t ht => by simp [hhost t ht]
    · exact fun t ht => by simp [husb t ht]
  · rw [PollPass.inputs, List.filter_append, List.filter_eq_nil_iff.mpr, List.filter_eq_self.mpr, List.nil_append]
    · exact fun t ht => by simp [hhost t ht]
    · exact fun t ht => by simp [husb t ht]

/-- Settles O16: one pass for each input gives any order, and each pass keeps each source's own. -/
theorem pollingAdmitsEveryInterleaving : Obligations.PollingAdmitsEveryInterleaving := by
  refine ⟨fun ts => ⟨ts.map singlePass, ?_, ?_⟩, fun ps hps => ?_⟩
  · simpa using fun t _ => (singlePass_spec t).1
  · simp [passesInputs, List.flatMap_map, singlePass_spec]
  · rw [List.map_flatMap, passesInputs, List.filter_flatMap, List.filter_flatMap]
    exact ⟨List.flatMap_congr fun p hp => (inputs_filter_source (hps p hp)).1,
      List.flatMap_congr fun p hp => (inputs_filter_source (hps p hp)).2⟩

end Sys2Proof.Machine
end
